-- ==== Sys2Proof/Word.lean ====
section
/-! DEFINITION. The widths of the engine's values: 32-bit words, 8-bit bytes, 64-bit blocks and the two halves of a
block (spec R7, R12). Everything is unsigned and wraps (R9, R91), which is what `BitVec` arithmetic does. -/

namespace Sys2Proof

/-- A register, a table entry or a half: 32 bits (R7 WORD, R12). -/
abbrev Word := BitVec 32

/-- One byte of a byte string (R10). -/
abbrev Byte := BitVec 8

/-- A block, an IV or a chaining value: 8 bytes, byte 0 in bits 63:56 and byte 7 in bits 7:0 (R12; log 11).
Only the representation is the model's: byte `i` is read by `Machine.blockByte`. -/
abbrev Block := BitVec 64

/-- The two halves of a block, (left, right) (R13 "half"). -/
abbrev Halves := Word × Word

end Sys2Proof
end

