-- ==== Sys2Proof/Syntax.lean ====
section
/-! DEFINITION. The nine commands of the opcode map (spec R69), one constructor per row of spec/opcode_table.json. -/

namespace Sys2Proof

/-- A legal command. The operand of KEYSCHED and SET_IV is a byte count, "an unsigned byte count from 0 to 255" (R68);
every other operand is implicit (R68). -/
inductive Instr where
  /-- KEYSCHED n, 0x01: derive the working tables from the first n key bytes (R84) -/
  | keysched (n : Nat)
  /-- SET_IV n, 0x02: set the IV from IVSTAGE (R107) -/
  | setIv (n : Nat)
  /-- GEN_IV, 0x03: set the IV from the entropy source (R108) -/
  | genIv
  /-- BLK_ENC, 0x10: encipher XL, XR (R92) -/
  | blkEnc
  /-- BLK_DEC, 0x11: decipher XL, XR (R93) -/
  | blkDec
  /-- ECB_ENC, 0x20 (R100) -/
  | ecbEnc
  /-- ECB_DEC, 0x21 (R102) -/
  | ecbDec
  /-- CBC_ENC, 0x22 (R103) -/
  | cbcEnc
  /-- CBC_DEC, 0x23 (R104) -/
  | cbcDec
  deriving DecidableEq, Repr

end Sys2Proof
end

