-- ==== Sys2Proof/WellFormed.lean ====
section
/-! DEFINITION. Which commands have an encoding: the operand of KEYSCHED and SET_IV is "a decimal or `0x` hex number from
0 to 255, placed in ARG" (spec R76). A length that the command itself refuses (KEYSCHED 0, SET_IV 7) is well formed: "A bad
length is a command error of that command, not an illegal encoding" (R70). -/

namespace Sys2Proof

/-- The operand fits the 8-bit field ARG (R67, R68, R76). -/
def Instr.wellFormed : Instr → Bool
  | .keysched n => n < 256
  | .setIv n => n < 256
  | .genIv => true
  | .blkEnc => true
  | .blkDec => true
  | .ecbEnc => true
  | .ecbDec => true
  | .cbcEnc => true
  | .cbcDec => true

end Sys2Proof
end

