-- ==== Sys2Proof/Decode.lean ====
section
/-! DEFINITION. The command word: decoding, a total function of the 32-bit word (spec R73), and the encoder, from the same
opcode map (R67, R69). -/

namespace Sys2Proof

/-- Why a command word is illegal (R70, R71). The engine reports one code for all of them (R73). -/
inductive Illegal where
  /-- RSVD, bits 31:16, is not 0 -/
  | rsvdNonzero
  /-- OPCODE, bits 7:0, is not in the opcode map -/
  | reservedOpcode
  /-- ARG, bits 15:8, is not 0 on a command that takes none -/
  | argNonzero
  deriving DecidableEq, Repr

/-- The result of R73's `decode(c)`. -/
inductive Decoded where
  | instr (i : Instr)
  | illegal (why : Illegal)
  deriving DecidableEq, Repr

/-- OPCODE, `c[7:0]` (R67). -/
def opcodeField (c : Word) : Byte := c.extractLsb' 0 8

/-- ARG, `c[15:8]` (R67). -/
def argField (c : Word) : Byte := c.extractLsb' 8 8

/-- RSVD, `c[31:16]` (R67). -/
def rsvdField (c : Word) : BitVec 16 := c.extractLsb' 16 16

/-- A command that takes no ARG: illegal when ARG is not 0 (R70). -/
def decodeNoArg (i : Instr) (arg : Byte) : Decoded :=
  if arg = 0#8 then .instr i else .illegal .argNonzero

/-- The opcode map (R69), with ARG zero-extended to a byte count (R68). -/
def decodeOpcode (opcode arg : Byte) : Decoded :=
  if opcode = 0x01#8 then .instr (.keysched arg.toNat)
  else if opcode = 0x02#8 then .instr (.setIv arg.toNat)
  else if opcode = 0x03#8 then decodeNoArg .genIv arg
  else if opcode = 0x10#8 then decodeNoArg .blkEnc arg
  else if opcode = 0x11#8 then decodeNoArg .blkDec arg
  else if opcode = 0x20#8 then decodeNoArg .ecbEnc arg
  else if opcode = 0x21#8 then decodeNoArg .ecbDec arg
  else if opcode = 0x22#8 then decodeNoArg .cbcEnc arg
  else if opcode = 0x23#8 then decodeNoArg .cbcDec arg
  else .illegal .reservedOpcode

/-- `decode(c)` of R73. -/
def decode (c : Word) : Decoded :=
  if rsvdField c ≠ 0#16 then .illegal .rsvdNonzero
  else decodeOpcode (opcodeField c) (argField c)

/-- The word with the given ARG and OPCODE and RSVD = 0 (R67: `0000000000000000 aaaaaaaa oooooooo`). -/
def commandWord (arg opcode : Byte) : Word := 0#16 ++ arg ++ opcode

/-- The command word of an instruction (R69 "Command words in full"). -/
def encode : Instr → Word
  | .keysched n => commandWord (BitVec.ofNat 8 n) 0x01#8
  | .setIv n => commandWord (BitVec.ofNat 8 n) 0x02#8
  | .genIv => commandWord 0#8 0x03#8
  | .blkEnc => commandWord 0#8 0x10#8
  | .blkDec => commandWord 0#8 0x11#8
  | .ecbEnc => commandWord 0#8 0x20#8
  | .ecbDec => commandWord 0#8 0x21#8
  | .cbcEnc => commandWord 0#8 0x22#8
  | .cbcDec => commandWord 0#8 0x23#8

/-- The command word that the opcode table's `nbits` low bits `w` stand for. A command is one 32-bit word (R74), a single
value on the bus: there are no bytes to lay out (log 8). -/
def tableWord (nbits w : Nat) : Word := BitVec.ofNat 32 (w % 2 ^ nbits)

/-- What the decoder reads from a word of the opcode table. -/
def decodeTableWord (nbits w : Nat) : Option Instr :=
  match decode (tableWord nbits w) with
  | .instr i => some i
  | .illegal _ => none

end Sys2Proof
end

