-- ==== Sys2Proof/Config.lean ====
section
/-! DEFINITION. What one hardware instance fixes (MSG_MAX and the constant tables, spec R8, R18), and the free values: the
values the spec leaves unspecified or takes from outside. A free value is an opaque constant applied to a counter that
`State` holds, so no proof can know it and no law relates two of them. -/

namespace Sys2Proof

/-- A P-array of 18 words and four S-boxes of 256 words (R38, R39; R43 for the constant tables). -/
structure Tables where
  /-- P[0..17] -/
  p : Vector Word 18
  /-- S[0..3], the source's S0..S3 -/
  s : Vector (Vector Word 256) 4
  deriving DecidableEq, Repr

/-- The configuration of a hardware instance: "The command set, the register map, MSG_MAX and the constant tables are
configuration, not state" (R18). It stands in the state as data that no step changes, so that a statement about every
state is a statement about every configuration (R8: both are arguments of the model; log 7). -/
structure Config where
  /-- MSG_MAX, the capacity in bytes of INBUF and of OUTBUF -/
  msgMax : Nat
  /-- INIT_P and INIT_S -/
  init : Tables
  deriving DecidableEq, Repr

/-- The values R8 allows for MSG_MAX: "a multiple of 8 with 8 <= MSG_MAX <= 16384". -/
abbrev Config.Legal (c : Config) : Prop :=
  c.msgMax % 8 = 0 ∧ 8 ≤ c.msgMax ∧ c.msgMax ≤ 16384

/-- The `n`-th sample of the input ent_data by `draw64()`: "any 64-bit value, independent of every other draw" (R110; log 3). -/
opaque Config.entData : Nat → BitVec 64

/-- Byte `i` of INBUF as drawn at reset number `r` (R139; log 4). -/
opaque Config.inbufReset (r i : Nat) : Byte

/-- Byte `i` of OUTBUF as drawn at reset number `r` (R139; log 4). -/
opaque Config.outbufReset (r i : Nat) : Byte

/-- P[i] as drawn at reset number `r` (R139; log 5). -/
opaque Config.pReset (r i : Nat) : Word

/-- S[k][j] as drawn at reset number `r` (R139; log 5). -/
opaque Config.sReset (r k j : Nat) : Word

/-- The value of the hidden half L outside a command (R19, R138; log 6). -/
opaque Config.idleL : Nat → Word

/-- The value of the hidden half R outside a command (R19, R138; log 6). -/
opaque Config.idleR : Nat → Word

/-- The value of the hidden chaining register CV outside a command (R20, R138; log 6). -/
opaque Config.idleCv : Nat → Block

end Sys2Proof
end

