-- ==== Sys2Proof/Machine/State.lean ====
section
/-! DEFINITION. The engine's state (spec R18), what the outside world sends and gets back (R48), and the state after reset
(R138). Plain data throughout. -/

namespace Sys2Proof.Machine

/-- The completion codes the engine produces, held in STATUS.ERR (R122). Codes 7 to 15 are "never produced", so they have
no constructor. The numbers are in `Completion.code`. -/
inductive Completion where
  | ok
  | invalidKeyLength
  | invalidIvLength
  | ivNotSet
  | noSchedule
  | illegalCommand
  | lengthTooLarge
  deriving DecidableEq, Repr

/-- The sequencer state SEQ: IDLE or BUSY(c), c the accepted command word (R23). -/
inductive Seq where
  | idle
  | busy (c : Word)
  deriving DecidableEq, Repr

/-- The three fields of CTRL (R27). CTRL[31:3] has no storage: it reads 0 and ignores writes (R37). -/
structure Ctrl where
  /-- bit 0: false = standard, true = non-standard word order -/
  wordOrder : Bool
  /-- bit 1: CBC_ENC generates a missing IV -/
  autoIv : Bool
  /-- bit 2: irq follows STATUS.DONE -/
  irqEn : Bool
  deriving DecidableEq, Repr

/-- The working tables P and S (R38, R39) and the datapath halves L and R, from which "every encipher and decipher reads
its input" and in which it "leaves its result" (R19). -/
structure Datapath where
  tables : Tables
  l : Word
  r : Word
  deriving DecidableEq, Repr

/-- A byte RAM: the bytes written since reset, as (index, byte) pairs with strictly rising indices (log 4). -/
abbrev Memory := List Host.Cell

/-- The canonical form of a memory. An unlisted byte holds no stored value at all, so no entry can equal what an unlisted
one holds, and equal sets of stored bytes are equal lists (log 4). -/
abbrev Memory.wf (m : Memory) : Prop := m.Pairwise (fun a b => a.1 < b.1)

/-- A host bus transaction: one aligned or misaligned 16-bit offset, one 32-bit word (R48). -/
inductive Transaction where
  | read (off : BitVec 16)
  | write (off : BitVec 16) (data : Word)
  deriving DecidableEq, Repr

/-- What happens next outside the engine, or that the engine gets the next turn. The order of the events is the order of
the agents' moves; LATENCY and the number of transactions that see BUSY = 1 are open (R15, R141), so this order is data
of the state and every statement about all states covers every order (log 1). -/
inductive Event where
  /-- the host performs a transaction -/
  | bus (t : Transaction)
  /-- the sequencer completes the command it holds, if any -/
  | engine
  /-- rst_n is asserted and released (R138) -/
  | reset
  deriving DecidableEq, Repr

/-- The answer to a transaction (R48): `data` for a Read that returns `ok(data32)`, `ok` for a Write that returns `ok`. -/
inductive Response where
  | data (v : Word)
  | ok
  | busError
  deriving DecidableEq, Repr

/-- The reasons to stop with a fault: none. "The engine takes no traps" (R128); an error completion "is not a fault of the
model" and `bus_error` "is not a fault of the engine" (R137). No one raises it, which is safe: `step` always goes on (log 12). -/
inductive Fault
  deriving DecidableEq, Repr

/-- The reasons to refuse an instruction. -/
inductive Refusal where
  /-- Raised by no arm of `exec`: every command has its meaning. It would be safe: nothing is proved of a refused
  instruction. -/
  | notModelled (mnemonic : String)
  deriving DecidableEq, Repr

/-- The state of the engine (R18), with the model's own fields last. -/
structure State where
  /-- MSG_MAX (read through PARAM, R33) and the constant ROM (R43): no step changes it -/
  cfg : Config
  /-- CTRL (R27) -/
  ctrl : Ctrl
  /-- STATUS.DONE (R28) -/
  done : Bool
  /-- STATUS.ERR (R28, R122) -/
  err : Completion
  /-- STATUS.SCHED_VALID (R40) -/
  schedValid : Bool
  /-- STATUS.IV_VALID (R41) -/
  ivValid : Bool
  /-- SEQ (R23); STATUS.BUSY is 1 exactly when it is busy -/
  seq : Seq
  /-- CMD (R30) -/
  cmd : Word
  /-- MSGLEN (R31) -/
  msglen : Word
  /-- OUTLEN (R32) -/
  outlen : Word
  /-- XL (R21) -/
  xl : Word
  /-- XR (R21) -/
  xr : Word
  /-- IVREG (R34) -/
  ivreg : Block
  /-- IVSTAGE (R35) -/
  ivstage : Block
  /-- KEYBUF (R36) -/
  keybuf : Vector Byte 56
  /-- P, S, L and R (R38, R39, R19) -/
  dp : Datapath
  /-- CV (R20) -/
  cv : Block
  /-- INBUF (R44): the bytes written since reset -/
  inbuf : Memory
  /-- OUTBUF (R44): the bytes written since reset -/
  outbuf : Memory
  /-- the model's own: how many values `draw64()` has given (R110; log 3) -/
  entDraws : Nat
  /-- the model's own: the number of the last reset, which drew the RAM contents (R139; log 4) -/
  resets : Nat
  /-- the model's own: how many values L, R and CV were given outside a command (R19, R20; log 6) -/
  idles : Nat
  /-- the model's own: the pending moves of the outside world and turns of the engine, oldest first (log 1) -/
  events : List Event
  /-- the model's own: the answers given on the bus, newest first (log 9) -/
  responses : List Response
  deriving DecidableEq, Repr

/-- The contents of the P and S RAMs after reset number `r`: unspecified, drawn once (R139; log 5). -/
def resetTables (r : Nat) : Tables where
  p := Vector.ofFn fun i => Config.pReset r i
  s := Vector.ofFn fun k => Vector.ofFn fun j => Config.sReset r k j

/-- R138's table: the state after reset number `r` of an instance with configuration `cfg`. The counters and lists that
are the model's own are arguments; `i` is the index of the free values of L, R and CV. -/
def State.afterReset (cfg : Config) (entDraws r i : Nat) (events : List Event) (responses : List Response) : State where
  cfg := cfg
  ctrl := ⟨false, true, false⟩
  done := false
  err := .ok
  schedValid := false
  ivValid := false
  seq := .idle
  cmd := 0
  msglen := 0
  outlen := 0
  xl := 0
  xr := 0
  ivreg := 0
  ivstage := 0
  keybuf := Vector.replicate 56 0
  dp := ⟨resetTables r, Config.idleL i, Config.idleR i⟩
  cv := Config.idleCv i
  inbuf := []
  outbuf := []
  entDraws := entDraws
  resets := r
  idles := i + 1
  events := events
  responses := responses

/-- The machine right after power-on reset (R138), default configuration (R8), nothing sent by the host yet. -/
def State.reset : State := State.afterReset defaultConfig 0 0 0 [] []

end Sys2Proof.Machine
end

