-- ==== Sys2Proof/Machine/Ops.lean ====
section
/-! DEFINITION. The shared operations: counted loops, byte RAM, table access, the entropy draw, and the two ends of a
command: acceptance (spec R72) and completion (R123), with the host's acknowledgement (R129) beside it. -/

namespace Sys2Proof.Machine

/-- `for i in 0..n: a <- body i a` (R11: "runs i = a, a+1, ..., b-1", here from 0). -/
def forUpTo {α : Type} (n : Nat) (body : Nat → α → α) (a : α) : α :=
  match n with
  | 0 => a
  | n + 1 => body n (forUpTo n body a)

/-! ### Byte RAM (R44, R139) -/

/-- The byte stored at an index, if one was written since reset. -/
def Memory.find (m : Memory) (i : Nat) : Option Byte :=
  match m with
  | [] => none
  | (a, b) :: rest => if a = i then some b else Memory.find rest i

/-- Store a byte, keeping the indices strictly rising. -/
def Memory.store (m : Memory) (i : Nat) (v : Byte) : Memory :=
  match m with
  | [] => [(i, v)]
  | (a, b) :: rest =>
    if i < a then (i, v) :: (a, b) :: rest
    else if i = a then (i, v) :: rest
    else (a, b) :: Memory.store rest i v

/-- Store a byte string from index `i` on: `MemWrite(buf, i, len, bytes)` (R11). -/
def Memory.storeBytes (m : Memory) (i : Nat) (bytes : List Byte) : Memory :=
  match bytes with
  | [] => m
  | v :: rest => Memory.storeBytes (m.store i v) (i + 1) rest

/-- INBUF[i]: the byte written last, or the value drawn at the last reset (R139; log 4). -/
def State.inbufByte (s : State) (i : Nat) : Byte := (s.inbuf.find i).getD (Config.inbufReset s.resets i)

/-- OUTBUF[i]: the byte written last, or the value drawn at the last reset (R139; log 4). -/
def State.outbufByte (s : State) (i : Nat) : Byte := (s.outbuf.find i).getD (Config.outbufReset s.resets i)

/-! ### Table RAM (R38, R39). The indices used are always in range (log 15). -/

/-- P[i]. -/
def subkey (t : Tables) (i : Nat) : Word := t.p[i]?.getD 0

/-- `P[i] <- v`. -/
def setSubkey (i : Nat) (v : Word) (t : Tables) : Tables := { t with p := t.p.setIfInBounds i v }

/-- S[k][j]. -/
def sbox (t : Tables) (k j : Nat) : Word := (t.s[k]?.bind fun box => box[j]?).getD 0

/-- `S[k][j] <- v`. -/
def setSbox (k j : Nat) (v : Word) (t : Tables) : Tables :=
  match t.s[k]? with
  | some box => { t with s := t.s.setIfInBounds k (box.setIfInBounds j v) }
  | none => t

/-! ### Entropy (R110) -/

/-- `IVREG <- draw64() ; IV_VALID <- 1` (R108, R109). The draw's bytes are `bytes_be(ent_data[63:32]) ||
bytes_be(ent_data[31:0])` (R110), which is the block with the same bits. -/
def drawIv (s : State) : State :=
  { s with ivreg := Config.entData s.entDraws, ivValid := true, entDraws := s.entDraws + 1 }

/-! ### Acceptance and completion -/

/-- STATUS.BUSY (R23: "reads 1 exactly when SEQ = BUSY(c)"). -/
def State.isBusy (s : State) : Bool :=
  match s.seq with
  | .idle => false
  | .busy _ => true

/-- Acceptance of the command word `c` (R72). -/
def accept (c : Word) (s : State) : State :=
  { s with cmd := c, done := false, err := .ok, seq := .busy c }

/-- Outside a command the values of L, R and CV are unspecified (R19, R20): they become the next free values (log 6). -/
def forgetHidden (s : State) : State :=
  { s with
    dp := { s.dp with l := Config.idleL s.idles, r := Config.idleR s.idles }
    cv := Config.idleCv s.idles
    idles := s.idles + 1 }

/-- `ERR <- code ; DONE <- 1 ; SEQ <- IDLE` (R123). -/
def finish (code : Completion) (s : State) : State :=
  { s with err := code, done := true, seq := .idle }

/-- `complete(0)` (R123), applied to the state in which the command has made its writes. -/
def completeOk (s : State) : State := finish .ok (forgetHidden s)

/-- `raise Error(code)` (R11, R123): the engine's one way of taking an error. Applied to the state at acceptance, so no write
of the command's rule is committed and only DONE, ERR and SEQ change (R128). -/
def raiseError (code : Completion) (s : State) : State := finish code s

/-- The host's acknowledgement, a write of 1 to STATUS.DONE: the analogue of a return from a trap. It restores nothing
(R129, R29). -/
def acknowledge (s : State) : State := { s with done := false }

/-- The reset event (R138): the state after the next reset. The configuration stays, the entropy source and the outside
world go on (log 10). -/
def applyReset (s : State) : State :=
  State.afterReset s.cfg s.entDraws (s.resets + 1) s.idles s.events s.responses

end Sys2Proof.Machine
end

