-- ==== Sys2Proof/Machine/Operands.lean ====
section
/-! DEFINITION. The operand forms: bytes and words (spec R10), word windows onto byte arrays (R53), key bytes and key words
(R36, R79), the padded message (R97), and blocks as halves (R94, R95). -/

namespace Sys2Proof.Machine

/-- `be32(b0,b1,b2,b3)`, the big-endian word (R10). -/
def be32 (b0 b1 b2 b3 : Byte) : Word := b0 ++ b1 ++ b2 ++ b3

/-- `le32(b0,b1,b2,b3)`, the little-endian word (R10). -/
def le32 (b0 b1 b2 b3 : Byte) : Word := b3 ++ b2 ++ b1 ++ b0

/-- Byte `i` of `bytes_be(w)`: byte 0 is `w[31:24]` (R10). -/
def wordByte (w : Word) (i : Nat) : Byte := w.extractLsb' (24 - 8 * i) 8

/-- `bytes_be(w)` (R10). -/
def bytesBe (w : Word) : List Byte := [wordByte w 0, wordByte w 1, wordByte w 2, wordByte w 3]

/-- The word of the four bytes of `w` in reverse order: `bytes_le` read back big-endian (R10). -/
def swapBytes (w : Word) : Word := le32 (wordByte w 0) (wordByte w 1) (wordByte w 2) (wordByte w 3)

/-- Byte `i` of a block (R12; log 11). -/
def blockByte (b : Block) (i : Nat) : Byte := b.extractLsb' (56 - 8 * i) 8

/-- The eight bytes of a block. -/
def blockBytes (b : Block) : List Byte :=
  [blockByte b 0, blockByte b 1, blockByte b 2, blockByte b 3, blockByte b 4, blockByte b 5, blockByte b 6, blockByte b 7]

/-- The block of the eight bytes `A[i], ..., A[i+7]`. -/
def blockAt (A : Nat → Byte) (i : Nat) : Block :=
  A i ++ A (i + 1) ++ A (i + 2) ++ A (i + 3) ++ A (i + 4) ++ A (i + 5) ++ A (i + 6) ++ A (i + 7)

/-- Word `w` of a byte array: `be32(A[4w], A[4w+1], A[4w+2], A[4w+3])` (R53). -/
def windowWord (A : Nat → Byte) (w : Nat) : Word := be32 (A (4 * w)) (A (4 * w + 1)) (A (4 * w + 2)) (A (4 * w + 3))

/-- The left word of a block, bytes 0 to 3 (IV0, IVSTAGE0; R34, R35). -/
def blockHi (b : Block) : Word := b.extractLsb' 32 32

/-- The right word of a block, bytes 4 to 7 (IV1, IVSTAGE1; R34, R35). -/
def blockLo (b : Block) : Word := b.extractLsb' 0 32

/-! ### Key bytes (R36, R79) -/

/-- KEYBUF[i], i < 56 (log 15). -/
def State.keyByte (s : State) (i : Nat) : Byte := s.keybuf[i]?.getD 0

/-- A host write of `data` to KEYw: `KEYBUF[4w..4w+4) <- bytes_be(data)` (R36, R53). -/
def setKeyWord (w : Nat) (data : Word) (k : Vector Byte 56) : Vector Byte 56 :=
  (((k.setIfInBounds (4 * w) (wordByte data 0)).setIfInBounds (4 * w + 1) (wordByte data 1)).setIfInBounds
    (4 * w + 2) (wordByte data 2)).setIfInBounds (4 * w + 3) (wordByte data 3)

/-- The key word at `offset`, indexing the `n` key bytes cyclically (R79). -/
def keyWord (K : Nat → Byte) (n offset : Nat) : Word :=
  be32 (K ((offset + 0) % n)) (K ((offset + 1) % n)) (K ((offset + 2) % n)) (K ((offset + 3) % n))

/-! ### The message (R97) -/

/-- `ceil8(n)`, the least multiple of 8 that is >= n (R10). -/
def ceil8 (n : Nat) : Nat := (n + 7) / 8 * 8

/-- The number of blocks of the padded message, N / 8 with N = ceil8(MSGLEN) (R97). -/
def State.blockCount (s : State) : Nat := ceil8 s.msglen.toNat / 8

/-- Byte `i` of `pad(INBUF, MSGLEN)`: INBUF below MSGLEN, zero from there on "whatever INBUF holds" (R97). -/
def State.messageByte (s : State) (i : Nat) : Byte := if i < s.msglen.toNat then s.inbufByte i else 0

/-- Block `b` of the padded message, `M[8b..8b+8)` (R60, R97). -/
def State.messageBlock (s : State) (b : Nat) : Block := blockAt s.messageByte (8 * b)

/-- `MemWrite(OUTBUF, 8b, 8, blk)` (R60). -/
def storeOutBlock (b : Nat) (blk : Block) (s : State) : State :=
  { s with outbuf := s.outbuf.storeBytes (8 * b) (blockBytes blk) }

/-- `strip(O, N)`: the index of the last non-zero byte below N plus one, or 0 (R101). -/
def strip (O : Nat → Byte) : Nat → Nat
  | 0 => 0
  | m + 1 => if O m = 0 then strip O m else m + 1

/-! ### Blocks and halves (R94, R95) -/

/-- `b2h(blk, wo)` (R94). -/
def b2h (blk : Block) (wo : Bool) : Halves :=
  let byte := blockByte blk
  match wo with
  | false => (be32 (byte 0) (byte 1) (byte 2) (byte 3), be32 (byte 4) (byte 5) (byte 6) (byte 7))
  | true => (le32 (byte 4) (byte 5) (byte 6) (byte 7), le32 (byte 0) (byte 1) (byte 2) (byte 3))

/-- `h2b(L, R, wo)` (R95): `bytes_be(L) || bytes_be(R)`, or `bytes_le(R) || bytes_le(L)`. -/
def h2b (h : Halves) (wo : Bool) : Block :=
  match wo with
  | false => h.1 ++ h.2
  | true => swapBytes h.2 ++ swapBytes h.1

end Sys2Proof.Machine
end

