-- ==== Sys2Proof/Machine/Flags.lean ====
section
/-! DEFINITION. The flags: STATUS and CTRL as words (spec R27, R28), the completion codes as numbers (R122), the interrupt
output (R126), and the checks that read the flags before a command runs (R98, R124). The datapath sets no flag (R25). -/

namespace Sys2Proof.Machine

/-- The number of a completion code (R122). -/
def Completion.code : Completion → BitVec 4
  | .ok => 0
  | .invalidKeyLength => 1
  | .invalidIvLength => 2
  | .ivNotSet => 3
  | .noSchedule => 4
  | .illegalCommand => 5
  | .lengthTooLarge => 6

/-- STATUS as the host reads it (R28). -/
def statusWord (s : State) : Word :=
  0#20 ++ s.err.code ++ 0#4 ++ BitVec.ofBool s.ivValid ++ BitVec.ofBool s.schedValid ++ BitVec.ofBool s.done ++
    BitVec.ofBool s.isBusy

/-- CTRL as the host reads it (R27). -/
def ctrlWord (c : Ctrl) : Word := 0#29 ++ BitVec.ofBool c.irqEn ++ BitVec.ofBool c.autoIv ++ BitVec.ofBool c.wordOrder

/-- CTRL after a host write: bits 2:0 are taken, the others ignored (R27, R37). -/
def ctrlOfWord (data : Word) : Ctrl where
  wordOrder := data.getLsbD 0
  autoIv := data.getLsbD 1
  irqEn := data.getLsbD 2

/-- A host write to STATUS while idle: bit 1 set clears DONE, all else is ignored (R29). -/
def writeStatus (data : Word) (s : State) : State := if data.getLsbD 1 then acknowledge s else s

/-- The interrupt output, `irq = STATUS.DONE & CTRL.IRQ_EN` (R126). -/
def irq (s : State) : Bool := s.done && s.ctrl.irqEn

/-- The check of BLK_ENC and BLK_DEC (R124): the code of the first check that fails. -/
def schedCheck (s : State) : Option Completion := if s.schedValid then none else some .noSchedule

/-- The common checks of the message commands, in order (R98, R124). -/
def messageCheck (s : State) : Option Completion :=
  if s.schedValid = false then some .noSchedule
  else if s.cfg.msgMax < s.msglen.toNat then some .lengthTooLarge
  else none

/-- The checks of CBC_ENC: the common ones, then IVNotSet when no IV is held and none is generated (R103, R124). -/
def cbcEncCheck (s : State) : Option Completion :=
  match messageCheck s with
  | some code => some code
  | none => if s.ivValid = false ∧ s.ctrl.autoIv = false then some .ivNotSet else none

/-- The checks of CBC_DEC: the common ones, then IVNotSet "whatever AUTO_IV holds" (R104, R124). -/
def cbcDecCheck (s : State) : Option Completion :=
  match messageCheck s with
  | some code => some code
  | none => if s.ivValid = false then some .ivNotSet else none

end Sys2Proof.Machine
end

