-- ==== Sys2Proof/Machine/Bus.lean ====
section
/-! DEFINITION. The host bus: the address map (spec R26, R50), reads (R42, R59), writes (R29, R57, R58, R59) and the answers
(R48, R49). -/

namespace Sys2Proof.Machine

/-- A mapped word of the host bus space (R26). -/
inductive Location where
  | ctrl | status | cmd | msglen | outlen | xl | xr | param | iv0 | iv1 | ivstage0 | ivstage1
  /-- KEYw, w < 14 -/
  | key (w : Nat)
  /-- PWINi, i < 18 -/
  | pwin (i : Nat)
  /-- SWINk_j, k < 4, j < 256 -/
  | swin (k j : Nat)
  /-- INBUFw, 4w < MSG_MAX -/
  | inbuf (w : Nat)
  /-- OUTBUFw, 4w < MSG_MAX -/
  | outbuf (w : Nat)
  deriving DecidableEq, Repr

/-- The control registers at 0x0000 to 0x002F, by word index (R26). -/
def controlLocation (w : Nat) : Option Location :=
  match w with
  | 0 => some .ctrl
  | 1 => some .status
  | 2 => some .cmd
  | 3 => some .msglen
  | 4 => some .outlen
  | 5 => some .xl
  | 6 => some .xr
  | 7 => some .param
  | 8 => some .iv0
  | 9 => some .iv1
  | 10 => some .ivstage0
  | 11 => some .ivstage1
  | _ => none

/-- The location an aligned offset maps to (R50). -/
def mapOffset (msgMax o : Nat) : Option Location :=
  if o < 0x0030 then controlLocation (o / 4)
  else if o < 0x0040 then none
  else if o < 0x0078 then some (.key ((o - 0x0040) / 4))
  else if o < 0x0100 then none
  else if o < 0x0148 then some (.pwin ((o - 0x0100) / 4))
  else if o < 0x1000 then none
  else if o < 0x2000 then some (.swin ((o - 0x1000) / 0x400) ((o - 0x1000) % 0x400 / 4))
  else if o < 0x4000 then none
  else if o < 0x8000 then (if o - 0x4000 < msgMax then some (.inbuf ((o - 0x4000) / 4)) else none)
  else (if o - 0x8000 < msgMax then some (.outbuf ((o - 0x8000) / 4)) else none)

/-- The location of an offset, none when it is misaligned or unmapped (R50, R56). -/
def locate (msgMax : Nat) (off : BitVec 16) : Option Location :=
  if off.toNat % 4 = 0 then mapOffset msgMax off.toNat else none

/-- The registers that can be read while busy (R59). -/
def Location.readableWhileBusy : Location → Bool
  | .ctrl | .status | .cmd | .param => true
  | _ => false

/-- The P and S read-back windows, gated by SCHED_VALID (R42). -/
def Location.gated : Location → Bool
  | .pwin _ | .swin _ _ => true
  | _ => false

/-- The word a location holds (R26, R53). -/
def readLocation (s : State) : Location → Word
  | .ctrl => ctrlWord s.ctrl
  | .status => statusWord s
  | .cmd => s.cmd
  | .msglen => s.msglen
  | .outlen => s.outlen
  | .xl => s.xl
  | .xr => s.xr
  | .param => BitVec.ofNat 32 s.cfg.msgMax
  | .iv0 => blockHi s.ivreg
  | .iv1 => blockLo s.ivreg
  | .ivstage0 => blockHi s.ivstage
  | .ivstage1 => blockLo s.ivstage
  | .key w => windowWord s.keyByte w
  | .pwin i => subkey s.dp.tables i
  | .swin k j => sbox s.dp.tables k j
  | .inbuf w => windowWord s.inbufByte w
  | .outbuf w => windowWord s.outbufByte w

/-- `Read(off)` (R48, R49). A read has no side effect (R57). -/
def busRead (off : BitVec 16) (s : State) : Response :=
  match locate s.cfg.msgMax off with
  | none => .busError
  | some loc =>
    if s.isBusy && !loc.readableWhileBusy then .busError
    else if loc.gated && !s.schedValid then .busError
    else .data (readLocation s loc)

/-- The effect of a write to a location while idle; none when it is read-only (R57, R58). -/
def writeLocation (data : Word) (s : State) : Location → Option State
  | .ctrl => some { s with ctrl := ctrlOfWord data }
  | .status => some (writeStatus data s)
  | .cmd => some (accept data s)
  | .msglen => some { s with msglen := data }
  | .xl => some { s with xl := data }
  | .xr => some { s with xr := data }
  | .ivstage0 => some { s with ivstage := data ++ blockLo s.ivstage }
  | .ivstage1 => some { s with ivstage := blockHi s.ivstage ++ data }
  | .key w => some { s with keybuf := setKeyWord w data s.keybuf }
  | .inbuf w => some { s with inbuf := s.inbuf.storeBytes (4 * w) (bytesBe data) }
  | .outlen | .param | .iv0 | .iv1 => none
  | .pwin _ | .swin _ _ | .outbuf _ => none

/-- The state after a successful `Write(off, data)`, none when it returns `bus_error` (R49, R58, R59: "every `Write` returns
`bus_error`" while busy). -/
def busWrite (off : BitVec 16) (data : Word) (s : State) : Option State :=
  if s.isBusy then none
  else (locate s.cfg.msgMax off).bind (writeLocation data s)

/-- Record an answer (log 9). -/
def respond (r : Response) (s : State) : State := { s with responses := r :: s.responses }

/-- One transaction, performed and answered in one step (R48). -/
def serve (t : Transaction) (s : State) : State :=
  match t with
  | .read off => respond (busRead off s) s
  | .write off data =>
    match busWrite off data s with
    | some s' => respond .ok s'
    | none => respond .busError s

end Sys2Proof.Machine
end

