-- ==== Sys2Proof/Machine/Iv.lean ====
section
/-! DEFINITION. IV management: SET_IV (spec R107) and GEN_IV (R108). The automatic IV of CBC_ENC (R109) is in
Machine/Modes.lean, over the same `drawIv`. -/

namespace Sys2Proof.Machine

/-- SET_IV n (R107). -/
def execSetIv (n : Nat) (s : State) : Host.Outcome State Fault Refusal :=
  if n ≠ 8 then .next (raiseError .invalidIvLength s)
  else .next (completeOk { s with ivreg := s.ivstage, ivValid := true })

/-- GEN_IV (R108). -/
def execGenIv (s : State) : Host.Outcome State Fault Refusal := .next (completeOk (drawIv s))

end Sys2Proof.Machine
end

