-- ==== Sys2Proof/Machine/Feistel.lean ====
section
/-! DEFINITION. The Feistel datapath: the round function F (spec R87), encipher (R88), decipher (R89), and the raw block
commands BLK_ENC (R92) and BLK_DEC (R93). -/

namespace Sys2Proof.Machine

/-- The round function F (R87): "add, then XOR, then add", modulo 2^32. -/
def roundF (t : Tables) (x : Word) : Word :=
  ((sbox t 0 (wordByte x 0).toNat + sbox t 1 (wordByte x 1).toNat) ^^^ sbox t 2 (wordByte x 2).toNat) +
    sbox t 3 (wordByte x 3).toNat

/-- Two rounds: `R <- F(L) ^ P[a] ^ R`, then `L <- F(R) ^ P[b] ^ L` with "F of the R just computed" (R88). -/
def roundPair (t : Tables) (a b : Nat) (h : Halves) : Halves :=
  let r := roundF t h.1 ^^^ subkey t a ^^^ h.2
  (roundF t r ^^^ subkey t b ^^^ h.1, r)

/-- `encipher(L, R)` (R88): round pairs r = 1, 3, ..., 15, and the halves swapped at the end. -/
def encipher (t : Tables) (h : Halves) : Halves :=
  let h := forUpTo 8 (fun m => roundPair t (2 * m + 1) (2 * m + 2)) (h.1 ^^^ subkey t 0, h.2)
  (h.2 ^^^ subkey t 17, h.1)

/-- `decipher(L, R)` (R89): round pairs r = 16, 14, ..., 2, and the halves swapped at the end. -/
def decipher (t : Tables) (h : Halves) : Halves :=
  let h := forUpTo 8 (fun m => roundPair t (16 - 2 * m) (15 - 2 * m)) (h.1 ^^^ subkey t 17, h.2)
  (h.2 ^^^ subkey t 0, h.1)

/-- Load the datapath halves L and R. -/
def loadHalves (h : Halves) (d : Datapath) : Datapath := { d with l := h.1, r := h.2 }

/-- The datapath halves (L, R). -/
def halvesOf (d : Datapath) : Halves := (d.l, d.r)

/-- An encipher reads L and R, and leaves its result in them (R19). -/
def encipherHalves (d : Datapath) : Datapath := loadHalves (encipher d.tables (halvesOf d)) d

/-- A decipher reads L and R, and leaves its result in them (R19). -/
def decipherHalves (d : Datapath) : Datapath := loadHalves (decipher d.tables (halvesOf d)) d

/-- The body of BLK_ENC and BLK_DEC: XL and XR through the cipher and back (R92, R93). -/
def blockRaw (cipher : Datapath → Datapath) (s : State) : State :=
  let d := cipher (loadHalves (s.xl, s.xr) s.dp)
  { s with dp := d, xl := d.l, xr := d.r }

/-- BLK_ENC (R92). -/
def execBlkEnc (s : State) : Host.Outcome State Fault Refusal :=
  match schedCheck s with
  | some code => .next (raiseError code s)
  | none => .next (completeOk (blockRaw encipherHalves s))

/-- BLK_DEC (R93). -/
def execBlkDec (s : State) : Host.Outcome State Fault Refusal :=
  match schedCheck s with
  | some code => .next (raiseError code s)
  | none => .next (completeOk (blockRaw decipherHalves s))

end Sys2Proof.Machine
end

