-- ==== Sys2Proof/Machine/KeySchedule.lean ====
section
/-! DEFINITION. The key schedule: steps 1 to 4 (spec R78, R79, R81, R82) on the datapath, in the fixed order of R83, and the
command KEYSCHED (R84). -/

namespace Sys2Proof.Machine

/-- One word of step 2: `P[i] <- P[i] ^ w ; offset <- (offset + 4) mod n` (R79). -/
def mixKeyWord (K : Nat → Byte) (n i : Nat) (x : Tables × Nat) : Tables × Nat :=
  (setSubkey i (subkey x.1 i ^^^ keyWord K n x.2) x.1, (x.2 + 4) % n)

/-- Step 2: the key is XORed into the P-array (R79). -/
def mixKey (K : Nat → Byte) (n : Nat) (t : Tables) : Tables := (forUpTo 18 (mixKeyWord K n) (t, 0)).1

/-- One iteration of step 3, with i = 2m (R81). -/
def fillP (m : Nat) (d : Datapath) : Datapath :=
  let e := encipherHalves d
  { e with tables := setSubkey (2 * m + 1) e.r (setSubkey (2 * m) e.l e.tables) }

/-- One iteration of step 4 for box k, with j = 2m (R82). -/
def fillS (k m : Nat) (d : Datapath) : Datapath :=
  let e := encipherHalves d
  { e with tables := setSbox k (2 * m + 1) e.r (setSbox k (2 * m) e.l e.tables) }

/-- Steps 3 and 4 from the tables that step 2 left: the accumulators start at zero, then P, S0, S1, S2, S3 (R81, R82, R83). -/
def fillTables (t : Tables) : Datapath :=
  forUpTo 4 (fun k => forUpTo 128 (fillS k)) (forUpTo 9 fillP ⟨t, 0, 0⟩)

/-- `derive(key)`: steps 1 to 4 with key bytes K[0..n) and constant tables `init` (R78 to R83). The last L and R come with
the tables. -/
def derive (init : Tables) (K : Nat → Byte) (n : Nat) : Datapath := fillTables (mixKey K n init)

/-- KEYSCHED n (R84). -/
def execKeysched (n : Nat) (s : State) : Host.Outcome State Fault Refusal :=
  if n = 0 ∨ 56 < n then .next (raiseError .invalidKeyLength s)
  else .next (completeOk { s with dp := derive s.cfg.init s.keyByte n, schedValid := true })

end Sys2Proof.Machine
end

