-- ==== Sys2Proof/Machine/Modes.lean ====
section
/-! DEFINITION. The mode controller: ECB_ENC (spec R100), ECB_DEC (R102), CBC_ENC (R103) and CBC_DEC (R104), block by block in
increasing order (R60). -/

namespace Sys2Proof.Machine

/-- One block through the datapath under CTRL.WORD_ORDER: `b2h`, the cipher, and the result left in L and R. -/
def cipherBlock (cipher : Datapath → Datapath) (x : Block) (s : State) : State :=
  { s with dp := cipher (loadHalves (b2h x s.ctrl.wordOrder) s.dp) }

/-- `h2b(L, R, wo)` of the datapath halves. -/
def State.halvesBlock (s : State) : Block := h2b (halvesOf s.dp) s.ctrl.wordOrder

/-- Block `b` of ECB_ENC and ECB_DEC (R100, R102). -/
def ecbBlock (cipher : Datapath → Datapath) (b : Nat) (s : State) : State :=
  let s' := cipherBlock cipher (s.messageBlock b) s
  storeOutBlock b s'.halvesBlock s'

/-- Block `b` of CBC_ENC: "the emitted ciphertext block becomes the next chaining value" (R103). -/
def cbcEncBlock (b : Nat) (s : State) : State :=
  let s' := cipherBlock encipherHalves (s.messageBlock b ^^^ s.cv) s
  storeOutBlock b s'.halvesBlock { s' with cv := s'.halvesBlock }

/-- Block `b` of CBC_DEC: the next chaining value is "the original ciphertext, not the output" (R104). -/
def cbcDecBlock (b : Nat) (s : State) : State :=
  let c := s.messageBlock b
  let s' := cipherBlock decipherHalves c s
  storeOutBlock b (s'.halvesBlock ^^^ s.cv) { s' with cv := c }

/-- `reg[OUTLEN] <- N`. -/
def setOutlen (n : Nat) (s : State) : State := { s with outlen := BitVec.ofNat 32 n }

/-- The loop of a message command over the blocks of the padded message, then `reg[OUTLEN] <- N` with N = ceil8(MSGLEN). -/
def runMessage (body : Nat → State → State) (s : State) : State :=
  setOutlen (ceil8 s.msglen.toNat) (forUpTo s.blockCount body s)

/-- `reg[OUTLEN] <- strip(OUTBUF[0..N), N)` (R102). -/
def stripOutlen (s : State) : State := setOutlen (strip s.outbufByte (ceil8 s.msglen.toNat)) s

/-- The automatic IV: a CBC_ENC that finds no IV draws one (R109). -/
def autoIv (s : State) : State := if s.ivValid then s else drawIv s

/-- `CV <- IVREG` (R103, R104). -/
def loadCv (s : State) : State := { s with cv := s.ivreg }

/-- ECB_ENC (R100). -/
def execEcbEnc (s : State) : Host.Outcome State Fault Refusal :=
  match messageCheck s with
  | some code => .next (raiseError code s)
  | none => .next (completeOk (runMessage (ecbBlock encipherHalves) s))

/-- ECB_DEC (R102). -/
def execEcbDec (s : State) : Host.Outcome State Fault Refusal :=
  match messageCheck s with
  | some code => .next (raiseError code s)
  | none => .next (completeOk (stripOutlen (runMessage (ecbBlock decipherHalves) s)))

/-- CBC_ENC (R103). -/
def execCbcEnc (s : State) : Host.Outcome State Fault Refusal :=
  match cbcEncCheck s with
  | some code => .next (raiseError code s)
  | none => .next (completeOk (runMessage cbcEncBlock (loadCv (autoIv s))))

/-- CBC_DEC (R104). -/
def execCbcDec (s : State) : Host.Outcome State Fault Refusal :=
  match cbcDecCheck s with
  | some code => .next (raiseError code s)
  | none => .next (completeOk (runMessage cbcDecBlock (loadCv s)))

end Sys2Proof.Machine
end

