-- ==== Sys2Proof/Machine/Dispatch.lean ====
section
/-! DEFINITION. The meaning of each command, one arm per constructor of `Instr` (spec R69, R73). -/

namespace Sys2Proof.Machine

-- Running the command "dispatches on the result" of the decoding (R73).
def exec (i : Instr) (s : State) : Host.Outcome State Fault Refusal :=
  match i with
  | .keysched n => Sys2Proof.Machine.execKeysched n s
  | .setIv n => Sys2Proof.Machine.execSetIv n s
  | .genIv => Sys2Proof.Machine.execGenIv s
  | .blkEnc => Sys2Proof.Machine.execBlkEnc s
  | .blkDec => Sys2Proof.Machine.execBlkDec s
  | .ecbEnc => Sys2Proof.Machine.execEcbEnc s
  | .ecbDec => Sys2Proof.Machine.execEcbDec s
  | .cbcEnc => Sys2Proof.Machine.execCbcEnc s
  | .cbcDec => Sys2Proof.Machine.execCbcDec s

end Sys2Proof.Machine
end

