-- ==== Sys2Proof/Machine/Sequencer.lean ====
section
/-! DEFINITION. The sequencer's move: the accepted command word is decoded and run to completion (spec R72, R73, R123), as one
atomic transition (R23). -/

namespace Sys2Proof.Machine

/-- Running the accepted word: "Illegal completes with code 5, IllegalCommand" (R73). -/
def runCommand (c : Word) (s : State) : Host.Outcome State Fault Refusal :=
  match decode c with
  | .instr i => exec i s
  | .illegal _ => .next (raiseError .illegalCommand s)

/-- The sequencer's turn: an idle engine holds its state (R136), a busy one runs its command. -/
def sequencerTurn (s : State) : Host.Outcome State Fault Refusal :=
  match s.seq with
  | .idle => .next s
  | .busy c => runCommand c s

/-- Take the next event off the list. -/
def popEvent (s : State) : State := { s with events := s.events.tail }

/-- One move of one agent. With no event pending the engine has the turn, so that every accepted command completes
without the host (R123, R141; log 1). -/
def nextMove (s : State) : Host.Outcome State Fault Refusal :=
  match s.events with
  | [] => sequencerTurn s
  | .engine :: _ => sequencerTurn (popEvent s)
  | .bus t :: _ => .next (serve t (popEvent s))
  | .reset :: _ => .next (applyReset (popEvent s))

/-- `s` with the command word `c` accepted (R72) and the next turn the engine's. -/
def holdCommand (c : Word) (s : State) : State := { accept c s with events := .engine :: s.events }

end Sys2Proof.Machine
end

