-- ==== Sys2Proof/Machine/Step.lean ====
section
/-! DEFINITION. One step of the machine: one move of the host, of the reset input or of the sequencer (spec R14, R48, R123). -/

namespace Sys2Proof.Machine

/-- One step. -/
def step (s : State) : Host.Outcome State Fault Refusal := nextMove s

/-- `s` with the command word `w` of the opcode table accepted, as a host write to CMD accepts it (R72), so that the very
next step runs it. A command engine fetches nothing (R22, R65): this stands for the host's write (log 8). -/
def State.withFetchWord (s : State) (nbits w : Nat) : State := holdCommand (tableWord nbits w) s

end Sys2Proof.Machine
end

