-- ==== Sys2Proof/Machine/HostCodec.lean ====
section
/-! DEFINITION. The host around the engine (outside the engine by spec R6; log 14): the pseudo-instructions of R77 as lists of
events, the hex and text codec (R112, R113, R115), the two constructors (R116, R117) and the text wrappers (R118, R119, R120).
A host action is the list of events it causes; its result is read from the state after them. The choices where those rules are
silent are log 14 and log 17. -/

namespace Sys2Proof.Machine

/-! ### Pseudo-instructions (R77) -/

/-- `WR off, v` (R76). -/
def wr (off : Nat) (v : Word) : Event := .bus (.write (BitVec.ofNat 16 off) v)

/-- `RD off` (R76). -/
def rd (off : Nat) : Event := .bus (.read (BitVec.ofNat 16 off))

/-- `ISSUE cmd`. -/
def issue (i : Instr) : List Event := [wr 0x0008 (encode i)]

/-- `WAIT`: `polls` reads of STATUS that see BUSY = 1 (any finite count, R15), then the engine completes, then the read that
sees BUSY = 0. -/
def wait (polls : Nat) : List Event := List.replicate polls (rd 0x0004) ++ [.engine, rd 0x0004]

/-- `RUN cmd`. -/
def run (i : Instr) (polls : Nat) : List Event := issue i ++ wait polls

/-- The big-endian words of a byte string, the last one filled with zero bytes. -/
def wordsBe : List Byte → List Word
  | b0 :: b1 :: b2 :: b3 :: rest => be32 b0 b1 b2 b3 :: wordsBe rest
  | [b0, b1, b2] => [be32 b0 b1 b2 0]
  | [b0, b1] => [be32 b0 b1 0 0]
  | [b0] => [be32 b0 0 0 0]
  | [] => []

/-- Writes of consecutive words from `base` on. -/
def loadWords (base : Nat) : List Word → List Event
  | [] => []
  | w :: rest => wr base w :: loadWords (base + 4) rest

/-- `LOADKEY b0 .. b(n-1)`. There is no KEYw past KEY13, and "the host must not write past KEY13" (R116): of a longer key
the first 56 bytes are written (log 14). -/
def loadKey (key : List Byte) : List Event := loadWords 0x0040 (wordsBe (key.take 56))

/-- `LOADIV`: the eight bytes of IVSTAGE, zero-filled (R77, R117, R120). -/
def loadIv (iv : List Byte) : List Event := loadWords 0x0028 (wordsBe ((iv ++ List.replicate 8 0).take 8))

/-- `LOADMSG b0 .. b(n-1)` on an instance whose PARAM reads `msgMax`: the words of INBUF, then MSGLEN. DESIGN CHOICE (log 17), the
spec is silent on a message longer than INBUF: the host writes the INBUFw that exist and no other offset, and writes n to
MSGLEN all the same, capped at 2^32 - 1, so that the command fails with LengthTooLarge (R148). -/
def loadMsg (msgMax : Nat) (msg : List Byte) : List Event :=
  loadWords 0x4000 (wordsBe (msg.take msgMax)) ++ [wr 0x000C (BitVec.ofNat 32 (min msg.length 0xFFFFFFFF))]

/-! ### Hex and text -/

/-- The sixteen lowercase digits of R112. -/
def hexDigits : List Char := ['0', '1', '2', '3', '4', '5', '6', '7', '8', '9', 'a', 'b', 'c', 'd', 'e', 'f']

/-- The digit of a nibble. -/
def hexDigit (n : Nat) : Char := hexDigits[n]?.getD '0'

/-- `hexenc` (R112): "the high nibble, then the low nibble". -/
def hexEnc : List Byte → List Char
  | [] => []
  | b :: rest => hexDigit (b.toNat / 16) :: hexDigit (b.toNat % 16) :: hexEnc rest

/-- The digit function d of R113: "d(any other character) = 0". -/
def hexValue (c : Char) : Nat :=
  if '0'.toNat ≤ c.toNat ∧ c.toNat ≤ '9'.toNat then c.toNat - '0'.toNat
  else if 'a'.toNat ≤ c.toNat ∧ c.toNat ≤ 'f'.toNat then c.toNat - 'a'.toNat + 10
  else if 'A'.toNat ≤ c.toNat ∧ c.toNat ≤ 'F'.toNat then c.toNat - 'A'.toNat + 10
  else 0

/-- `hexdec` (R113): a final unpaired character is ignored. -/
def hexDec : List Char → List Byte
  | c1 :: c2 :: rest => BitVec.ofNat 8 (16 * hexValue c1 + hexValue c2) :: hexDec rest
  | _ => []

/-- Text to bytes (R115): no meaning for a character outside 0 to 127. -/
def textBytes (t : List Char) : Option (List Byte) :=
  t.mapM fun c => if c.toNat < 128 then some (BitVec.ofNat 8 c.toNat) else none

/-- Bytes to text (R115): no meaning for a byte of 128 or more. -/
def bytesText (bs : List Byte) : Option (List Char) :=
  bs.mapM fun b => if b.toNat < 128 then some (Char.ofNat b.toNat) else none

/-! ### Constructors -/

/-- The hex-key constructor (R116): a length over 255 is capped in ARG. -/
def hexKeyConstructor (t : List Char) (polls : Nat) : List Event :=
  let key := hexDec t
  loadKey key ++ run (.keysched (min key.length 255)) polls

/-- The single-blob constructor (R117): `keyPolls` and `ivPolls` are the polls that see BUSY = 1 of its two commands, each any
finite count of its own (R15). -/
def blobConstructor (blob : List Byte) (keyPolls ivPolls : Nat) : List Event :=
  let key := blob.take 56
  let iv := (blob.drop 56).take 8
  loadKey key ++ run (.keysched key.length) keyPolls ++
    (if 56 < blob.length then loadIv iv ++ run (.setIv iv.length) ivPolls else [])

/-! ### Text wrappers -/

/-- What a text wrapper returns. DESIGN CHOICE (log 17): the section is silent on a wrapper whose command fails, and R143 has the
host see "STATUS.BUSY = 0 with DONE = 1 and the ERR it expects" before it uses a result, so a failure is returned as its code. -/
inductive TextResult where
  /-- every command of the wrapper completed with code 0 -/
  | text (t : List Char)
  /-- the last command completed with this error; no text is returned -/
  | failed (code : Completion)
  /-- no completion is there to be read: BUSY = 1 or DONE = 0 -/
  | pending
  /-- a byte of 128 or more, or a missing answer: the text has no meaning (R115) -/
  | noMeaning
  deriving DecidableEq, Repr

/-- The host's check of R143, then the text read from a state that passes it. -/
def collect (text : State → Option (List Char)) (s : State) : TextResult :=
  if s.isBusy || !s.done then .pending
  else if s.err ≠ .ok then .failed s.err
  else match text s with
    | some t => .text t
    | none => .noMeaning

/-- `OUTBUF[0..n)`. -/
def outbufBytes (s : State) (n : Nat) : List Byte := (List.range n).map s.outbufByte

/-- `OUTBUF[0..OUTLEN)`, what the host collects (R121). -/
def outputBytes (s : State) : List Byte := outbufBytes s s.outlen.toNat

/-- ECB text encrypt (R118): the events, when the text has a meaning. -/
def ecbTextEncrypt (msgMax : Nat) (pt : List Char) (polls : Nat) : Option (List Event) :=
  (textBytes pt).map fun m => loadMsg msgMax m ++ run .ecbEnc polls

/-- The result of an ECB text encrypt (R118). -/
def ecbTextEncrypted : State → TextResult := collect fun s => some (hexEnc (outputBytes s))

/-- ECB text decrypt (R118). -/
def ecbTextDecrypt (msgMax : Nat) (ct : List Char) (polls : Nat) : List Event :=
  loadMsg msgMax (hexDec ct) ++ run .ecbDec polls

/-- The result of an ECB text decrypt (R118). -/
def ecbTextDecrypted : State → TextResult := collect fun s => bytesText (outputBytes s)

/-- CBC text encrypt (R119): the events, when the text has a meaning; the last two are the reads of IV0 and IV1. -/
def cbcTextEncrypt (msgMax : Nat) (pt : List Char) (polls : Nat) : Option (List Event) :=
  (textBytes pt).map fun m => loadMsg msgMax m ++ run .cbcEnc polls ++ [rd 0x0020, rd 0x0024]

/-- IVREG as the host has read it: the last two answers are those of IV0 and then IV1 (R119). -/
def ivRead (s : State) : Option Block :=
  match s.responses with
  | .data iv1 :: .data iv0 :: _ => some (iv0 ++ iv1)
  | _ => none

/-- The result of a CBC text encrypt (R119): `hexenc(IVREG) || hexenc(OUTBUF[0..OUTLEN))`. -/
def cbcTextEncrypted : State → TextResult :=
  collect fun s => (ivRead s).map fun iv => hexEnc (blockBytes iv) ++ hexEnc (outputBytes s)

/-- CBC text decrypt (R120). DESIGN CHOICE (log 17): the host goes on to LOADMSG and CBC_DEC only when the SET_IV can succeed, so
that a text of fewer than 16 characters ends with the InvalidIVLength of its SET_IV. `ivPolls` and `msgPolls` are the polls
that see BUSY = 1 of its two commands, each any finite count of its own (R15). -/
def cbcTextDecrypt (msgMax : Nat) (ct : List Char) (ivPolls msgPolls : Nat) : List Event :=
  let v := hexDec (ct.take 16)
  loadIv v ++ run (.setIv v.length) ivPolls ++
    (if v.length = 8 then loadMsg msgMax (hexDec (ct.drop 16)) ++ run .cbcDec msgPolls else [])

/-- The result of a CBC text decrypt (R120): "The trailing-zero strip is a host step at the text level". -/
def cbcTextDecrypted : State → TextResult :=
  collect fun s => bytesText (outbufBytes s (strip s.outbufByte s.outlen.toNat))

end Sys2Proof.Machine
end

