-- ==== Sys2Proof/Safety.lean ====
section
/-! DEFINITION. The terms of the statements: what a completed command leaves, one block through the cipher, the offsets of the
bus map by range, and the invariants of the machine. -/

namespace Sys2Proof.Machine

/-! ### What a command leaves -/

/-- `s` after a success that wrote nothing yet: DONE = 1, ERR = 0, SEQ = IDLE (R123), and the hidden L, R, CV of `t`, whose
values outside a command are unspecified (R19, R20). A frame is then written as one equation, `t` equal to this with the
fields the command writes. -/
def State.completedAs (s t : State) : State :=
  { s with
    dp := { s.dp with l := t.dp.l, r := t.dp.r }
    cv := t.cv
    idles := t.idles
    err := .ok
    done := true
    seq := .idle }

/-- `s` after a failure with this code: only ERR, DONE and SEQ differ (R123, R128). -/
def State.failedWith (s : State) (code : Completion) : State :=
  { s with err := code, done := true, seq := .idle }

/-! ### One block through the cipher (R88, R89, R94, R95) -/

/-- A block enciphered under a word order: `h2b(encipher(b2h(x, wo)), wo)`. -/
def encipherBlock (t : Tables) (wo : Bool) (x : Block) : Block := h2b (encipher t (b2h x wo)) wo

/-- A block deciphered under a word order: `h2b(decipher(b2h(x, wo)), wo)`. -/
def decipherBlock (t : Tables) (wo : Bool) (x : Block) : Block := h2b (decipher t (b2h x wo)) wo

/-- Block `b` of OUTBUF, `OUTBUF[8b..8b+8)`. -/
def State.outputBlock (s : State) (b : Nat) : Block := blockAt s.outbufByte (8 * b)

/-- N, the length of the padded message (R97). -/
def State.paddedLength (s : State) : Nat := ceil8 s.msglen.toNat

/-- The message commands. -/
def isMessage : Instr → Bool
  | .ecbEnc | .ecbDec | .cbcEnc | .cbcDec => true
  | .keysched _ | .setIv _ | .genIv | .blkEnc | .blkDec => false

/-- The commands that need a key schedule (R40). -/
def needsSchedule : Instr → Bool
  | .blkEnc | .blkDec | .ecbEnc | .ecbDec | .cbcEnc | .cbcDec => true
  | .keysched _ | .setIv _ | .genIv => false

/-! ### The bus map by range (R50) -/

/-- The mapped offsets (R50). -/
def MappedOffset (msgMax o : Nat) : Prop :=
  o < 0x0030 ∨ (0x0040 ≤ o ∧ o < 0x0078) ∨ (0x0100 ≤ o ∧ o < 0x0148) ∨ (0x1000 ≤ o ∧ o < 0x2000) ∨
    (0x4000 ≤ o ∧ o < 0x4000 + msgMax) ∨ (0x8000 ≤ o ∧ o < 0x8000 + msgMax)

/-- The read-only locations: OUTLEN, PARAM, IV0, IV1, PWINi, SWINk_j and OUTBUFw (R58). -/
def ReadOnlyOffset (msgMax o : Nat) : Prop :=
  o = 0x0010 ∨ o = 0x001C ∨ o = 0x0020 ∨ o = 0x0024 ∨ (0x0100 ≤ o ∧ o < 0x0148) ∨ (0x1000 ≤ o ∧ o < 0x2000) ∨
    (0x8000 ≤ o ∧ o < 0x8000 + msgMax)

/-- The P and S windows (R42). -/
def WindowOffset (o : Nat) : Prop := (0x0100 ≤ o ∧ o < 0x0148) ∨ (0x1000 ≤ o ∧ o < 0x2000)

/-- CTRL, STATUS, CMD and PARAM, which can be read while busy (R59). -/
def BusyReadableOffset (o : Nat) : Prop := o = 0x0000 ∨ o = 0x0004 ∨ o = 0x0008 ∨ o = 0x001C

/-- The word `v` is word `w` of the byte array `A`, big-endian, by number (R53). -/
def PacksBigEndian (A : Nat → Byte) (w : Nat) (v : Word) : Prop :=
  v.toNat = (A (4 * w)).toNat * 2 ^ 24 + (A (4 * w + 1)).toNat * 2 ^ 16 + (A (4 * w + 2)).toNat * 2 ^ 8 +
    (A (4 * w + 3)).toNat

/-! ### Invariants -/

/-- A byte RAM is in canonical form and holds only bytes that exist (R44: MSG_MAX bytes). -/
abbrev Memory.within (m : Memory) (size : Nat) : Prop := m.wf ∧ ∀ c ∈ m, c.1 < size

/-- While busy, "the host can see only these: STATUS.BUSY = 1, STATUS.DONE = 0, STATUS.ERR = 0, ..., CMD = c" (R24). -/
def State.busyConsistent (s : State) : Prop := ∀ c, s.seq = .busy c → s.cmd = c ∧ s.done = false ∧ s.err = .ok

/-- An absent IV is "IV_VALID = 0 and IVREG = 00 x 8" (R106). -/
def State.ivConsistent (s : State) : Prop := s.ivValid = false → s.ivreg = 0

/-- The structural invariant: a legal configuration (R8), RAMs in canonical form and inside MSG_MAX (R44), OUTLEN inside
MSG_MAX (R32, R98), a consistent STATUS while busy (R24) and a consistent IV (R106). -/
structure State.Inv (s : State) : Prop where
  legal : s.cfg.Legal
  inbuf : s.inbuf.within s.cfg.msgMax
  outbuf : s.outbuf.within s.cfg.msgMax
  outlen : s.outlen.toNat ≤ s.cfg.msgMax
  busy : s.busyConsistent
  iv : s.ivConsistent

/-- While SCHED_VALID is 1, the working tables are those of some key of a valid length (R38, R39, R40, R86). -/
def State.Scheduled (s : State) : Prop :=
  s.schedValid = true → ∃ (K : Nat → Byte) (n : Nat), 1 ≤ n ∧ n ≤ 56 ∧ s.dp.tables = (derive s.cfg.init K n).tables

end Sys2Proof.Machine
end

