-- ==== Sys2Proof/Certificates/Slice0/Obligations.lean ====
section
/-! DEFINITION. The statements for the provers, family by family: encoding, acceptance and completion, key schedule, Feistel
core, mode controller, IV, host bus, whole-machine rules and invariants, host codec. -/

open Sys2Proof Sys2Proof.Machine

/-! ## Encoding -/

/-- The command words of the opcode map (R69): KEYSCHED n = 0x0000nn01, SET_IV n = 0x0000nn02, and the seven others in full. -/
def Obligations.OpcodeMapWordsDecode : Prop :=
  (∀ n : Nat, n < 256 → decode (BitVec.ofNat 32 (n * 0x100 + 0x01)) = .instr (.keysched n)) ∧
  (∀ n : Nat, n < 256 → decode (BitVec.ofNat 32 (n * 0x100 + 0x02)) = .instr (.setIv n)) ∧
  decode 0x00000003#32 = .instr .genIv ∧
  decode 0x00000010#32 = .instr .blkEnc ∧
  decode 0x00000011#32 = .instr .blkDec ∧
  decode 0x00000020#32 = .instr .ecbEnc ∧
  decode 0x00000021#32 = .instr .ecbDec ∧
  decode 0x00000022#32 = .instr .cbcEnc ∧
  decode 0x00000023#32 = .instr .cbcDec

/-- Decoding the encoding of a well-formed command gives it back (R67, R68, R69, R73). -/
def Obligations.DecodeEncode : Prop :=
  ∀ i : Instr, i.wellFormed = true → decode (encode i) = .instr i

/-- A word has one meaning: the command decoded from it is well formed and encodes to it (R67, R70, R73). -/
def Obligations.EncodeDecode : Prop :=
  ∀ (c : Word) (i : Instr), decode c = .instr i → i.wellFormed = true ∧ encode i = c

/-- R70: which words are legal, that every ARG of KEYSCHED and SET_IV is legal as an encoding, and that an illegal word is
accepted like any other and completes with IllegalCommand, changing no other state. `o` is `c[7:0]`, `a` is `c[15:8]`, both by
division. That the engine has the turn when no event is pending is the model's choice, not R70's (log 1). -/
def Obligations.LegalCommandWords : Prop :=
  (∀ c : Word, (∃ i, decode c = .instr i) ↔
    (c.toNat / 2 ^ 16 = 0 ∧
     c.toNat % 2 ^ 8 ∈ [0x01, 0x02, 0x03, 0x10, 0x11, 0x20, 0x21, 0x22, 0x23] ∧
     (c.toNat % 2 ^ 8 ∈ [0x03, 0x10, 0x11, 0x20, 0x21, 0x22, 0x23] → c.toNat / 2 ^ 8 % 2 ^ 8 = 0))) ∧
  (∀ (c : Word) (s : State), s.seq = .idle →
    busWrite 0x0008 c s = some { s with cmd := c, done := false, err := .ok, seq := .busy c }) ∧
  (∀ (c : Word) (s : State), s.seq = .busy c → (∀ i, decode c ≠ .instr i) →
    (s.events = [] → step s = .next { s with err := .illegalCommand, done := true, seq := .idle }) ∧
    (∀ rest, s.events = .engine :: rest →
      step s = .next { s with events := rest, err := .illegalCommand, done := true, seq := .idle }))

/-! ## Acceptance, running and completion -/

/-- R72: a write to CMD while idle is accepted in one step and answered `ok`, the command then runs and completes; a write to
CMD while busy is answered `bus_error` and changes nothing. -/
def Obligations.CommandAcceptance : Prop :=
  (∀ (c : Word) (s : State) (rest : List Event), s.seq = .idle → s.events = .bus (.write 0x0008 c) :: rest →
    ∃ t, step s = .next t ∧
      t = { s with cmd := c, done := false, err := .ok, seq := .busy c, events := rest, responses := .ok :: s.responses } ∧
      ∃ u, step { t with events := .engine :: rest } = .next u ∧ u.seq = .idle ∧ u.done = true) ∧
  (∀ (c d : Word) (s : State) (rest : List Event), s.seq = .busy d → s.events = .bus (.write 0x0008 c) :: rest →
    step s = .next { s with events := rest, responses := .busError :: s.responses })

/-- When the engine has the turn and holds a legal command word, the step is `exec` of the decoded command (R72, R73, R123), at
the state less the event that gave the turn. The list of events, and that the engine has the turn when none is pending, are the
model's choice (log 1). -/
def Obligations.StepRunsDecodedCommand : Prop :=
  ∀ (c : Word) (i : Instr) (s : State), s.seq = .busy c → decode c = .instr i →
    (s.events = [] → step s = exec i s) ∧
    (∀ rest, s.events = .engine :: rest → step s = exec i { s with events := rest })

/-- What `withFetchWord` places runs as the very next step: exactly the command the decoder reads from that word, at the state
in which it was accepted (log 8). -/
def Obligations.PlacedWordRunsNext : Prop :=
  ∀ (s : State) (nbits w : Nat) (i : Instr), decodeTableWord nbits w = some i →
    step (s.withFetchWord nbits w) =
      exec i { s with cmd := tableWord nbits w, done := false, err := .ok, seq := .busy (tableWord nbits w) }

/-- Every command, whatever the state, completes in one atomic transition: DONE = 1, SEQ = IDLE (R24, R123). -/
def Obligations.EveryCommandCompletes : Prop :=
  ∀ (i : Instr) (s : State), ∃ t, exec i s = .next t ∧ t.done = true ∧ t.seq = .idle

/-- R124: the checks in order; the first that fails gives the code, a command reports success exactly when none fails, and
every check runs before any write: a failed command leaves every piece of state as it was at acceptance, except DONE, ERR
(R128) and SEQ (R123). -/
def Obligations.ErrorPriority : Prop :=
  (∀ (c : Word) (s : State), (∀ i, decode c ≠ .instr i) → runCommand c s = .next (s.failedWith .illegalCommand)) ∧
  (∀ (n : Nat) (s t : State), exec (.keysched n) s = .next t →
    t.err = if n = 0 ∨ n > 56 then .invalidKeyLength else .ok) ∧
  (∀ (n : Nat) (s t : State), exec (.setIv n) s = .next t → t.err = if n ≠ 8 then .invalidIvLength else .ok) ∧
  (∀ s t : State, exec .genIv s = .next t → t.err = .ok) ∧
  (∀ (i : Instr) (s t : State), i = .blkEnc ∨ i = .blkDec → exec i s = .next t →
    t.err = if s.schedValid = false then .noSchedule else .ok) ∧
  (∀ (i : Instr) (s t : State), i = .ecbEnc ∨ i = .ecbDec → exec i s = .next t →
    t.err = if s.schedValid = false then .noSchedule
      else if s.msglen.toNat > s.cfg.msgMax then .lengthTooLarge else .ok) ∧
  (∀ s t : State, exec .cbcEnc s = .next t →
    t.err = if s.schedValid = false then .noSchedule
      else if s.msglen.toNat > s.cfg.msgMax then .lengthTooLarge
      else if s.ivValid = false ∧ s.ctrl.autoIv = false then .ivNotSet else .ok) ∧
  (∀ s t : State, exec .cbcDec s = .next t →
    t.err = if s.schedValid = false then .noSchedule
      else if s.msglen.toNat > s.cfg.msgMax then .lengthTooLarge
      else if s.ivValid = false then .ivNotSet else .ok) ∧
  (∀ (i : Instr) (s t : State), exec i s = .next t → t.err ≠ .ok → t = s.failedWith t.err)

/-! ## Key schedule -/

/-- KEYSCHED n with 1 <= n <= 56 writes the derived tables and SCHED_VALID, and nothing else but the completion (R84). -/
def Obligations.KeyschedResult : Prop :=
  ∀ (n : Nat) (s : State), 1 ≤ n → n ≤ 56 →
    ∃ t, exec (.keysched n) s = .next t ∧
      t = { s.completedAs t with
            dp := ⟨(derive s.cfg.init s.keyByte n).tables, t.dp.l, t.dp.r⟩, schedValid := true }

/-- R85: a KEYSCHED that fails leaves every piece of state as it was, except DONE and ERR (and SEQ, which completion sets);
the only failure is InvalidKeyLength. -/
def Obligations.FailedKeyschedChangesNothing : Prop :=
  (∀ (n : Nat) (s : State), n = 0 ∨ n > 56 → exec (.keysched n) s = .next (s.failedWith .invalidKeyLength)) ∧
  (∀ (n : Nat) (s t : State), exec (.keysched n) s = .next t → t.err ≠ .ok →
    t.err = .invalidKeyLength ∧ (n = 0 ∨ n > 56) ∧ t = s.failedWith .invalidKeyLength)

/-- R80: the byte that step 2 uses at position j of word i is `K[(4i + j) mod n]`; step 2 touches P only (R79). -/
def Obligations.KeyBytesRepeatCyclically : Prop :=
  ∀ (K : Nat → Byte) (n : Nat) (t : Tables), 1 ≤ n →
    (∀ i, i < 18 → subkey (mixKey K n t) i =
      subkey t i ^^^ be32 (K ((4 * i) % n)) (K ((4 * i + 1) % n)) (K ((4 * i + 2) % n)) (K ((4 * i + 3) % n))) ∧
    (mixKey K n t).s = t.s

/-- Steps 3 and 4 on tables `t` (R81, R82, R83): with `dP m` the datapath after m iterations of step 3 and `dS k m` after m
iterations for box k, each iteration enciphers the accumulators under the tables written so far and writes the two entries of
its pair and no other; box 0 starts where step 3 ended and box k + 1 where box k ended; the finished tables hold at every
place the accumulator value written there, and the derivation of a key is these steps run on what step 2 left (R78, R79). -/
def Obligations.ScheduleWritesInOrder : Prop :=
  ∀ t : Tables,
    let dP := fun m => forUpTo m fillP ⟨t, 0, 0⟩
    let dS := fun k m => forUpTo m (fillS k) (forUpTo k (fun k => forUpTo 128 (fillS k)) (dP 9))
    let final := (fillTables t).tables
    (∀ m, m < 9 → halvesOf (dP (m + 1)) = encipher (dP m).tables (halvesOf (dP m)) ∧
      (∀ i, i < 18 → subkey (dP (m + 1)).tables i =
        if i = 2 * m then (dP (m + 1)).l else if i = 2 * m + 1 then (dP (m + 1)).r else subkey (dP m).tables i) ∧
      (dP (m + 1)).tables.s = (dP m).tables.s ∧
      subkey final (2 * m) = (dP (m + 1)).l ∧ subkey final (2 * m + 1) = (dP (m + 1)).r) ∧
    (∀ k m, k < 4 → m < 128 → halvesOf (dS k (m + 1)) = encipher (dS k m).tables (halvesOf (dS k m)) ∧
      (∀ k' j, k' < 4 → j < 256 → sbox (dS k (m + 1)).tables k' j =
        if k' = k ∧ j = 2 * m then (dS k (m + 1)).l else if k' = k ∧ j = 2 * m + 1 then (dS k (m + 1)).r
        else sbox (dS k m).tables k' j) ∧
      (dS k (m + 1)).tables.p = (dS k m).tables.p ∧
      sbox final k (2 * m) = (dS k (m + 1)).l ∧ sbox final k (2 * m + 1) = (dS k (m + 1)).r) ∧
    dS 0 0 = dP 9 ∧ (∀ k, k < 4 → dS (k + 1) 0 = dS k 128) ∧
    (∀ (init : Tables) (K : Nat → Byte) (n : Nat), mixKey K n init = t → derive init K n = dS 4 0)

/-- R86: the tables a KEYSCHED derives depend on the first n key bytes and n only (and on the constant tables of the
instance), and no host write, to KEYBUF or elsewhere, changes the working tables. -/
def Obligations.TablesSnapshotTheKey : Prop :=
  (∀ (n : Nat) (s s' t t' : State), s.cfg.init = s'.cfg.init → (∀ i, i < n → s.keyByte i = s'.keyByte i) →
    exec (.keysched n) s = .next t → exec (.keysched n) s' = .next t' → t.err = .ok → t.dp.tables = t'.dp.tables) ∧
  (∀ (off : BitVec 16) (data : Word) (s t : State), busWrite off data s = some t →
    t.dp.tables = s.dp.tables ∧ t.schedValid = s.schedValid)

/-- "Every all-zero key, of any length from 1 to 56, gives the same working tables" (R84), for any constant tables. -/
def Obligations.ZeroKeysGiveOneSchedule : Prop :=
  ∀ (init : Tables) (K K' : Nat → Byte) (n n' : Nat), 1 ≤ n → n ≤ 56 → 1 ≤ n' → n' ≤ 56 →
    (∀ i, i < n → K i = 0) → (∀ i, i < n' → K' i = 0) →
    (derive init K n).tables = (derive init K' n').tables

/-! ## Feistel core -/

/-- R87: the round function by number: bytes from most to least significant, "add, then XOR, then add", modulo 2^32. -/
def Obligations.RoundFunction : Prop :=
  ∀ (t : Tables) (x : Word),
    let S := fun (k : Fin 4) (j : Nat) => ((t.s[k])[j % 256]'(Nat.mod_lt _ (by decide))).toNat
    (roundF t x).toNat =
      ((((S 0 (x.toNat / 2 ^ 24) + S 1 (x.toNat / 2 ^ 16)) % 2 ^ 32) ^^^ S 2 (x.toNat / 2 ^ 8)) + S 3 x.toNat) % 2 ^ 32

/-- R88, R89: what encipher and decipher compute, round pair by round pair. `h 0` is what the first line leaves, `h m` what m
round pairs leave, each pair using "F of the R just computed", and the last line swaps; P[i] is entry i of the P-array. -/
def Obligations.EncipherDecipherRounds : Prop :=
  ∀ (t : Tables) (l r : Word),
    (∀ i (hi : i < 18), subkey t i = t.p[i]) ∧
    (∃ h : Nat → Halves, h 0 = (l ^^^ subkey t 0, r) ∧
      (∀ m, m < 8 →
        let r' := roundF t (h m).1 ^^^ subkey t (2 * m + 1) ^^^ (h m).2
        h (m + 1) = (roundF t r' ^^^ subkey t (2 * m + 2) ^^^ (h m).1, r')) ∧
      encipher t (l, r) = ((h 8).2 ^^^ subkey t 17, (h 8).1)) ∧
    (∃ h : Nat → Halves, h 0 = (l ^^^ subkey t 17, r) ∧
      (∀ m, m < 8 →
        let r' := roundF t (h m).1 ^^^ subkey t (16 - 2 * m) ^^^ (h m).2
        h (m + 1) = (roundF t r' ^^^ subkey t (15 - 2 * m) ^^^ (h m).1, r')) ∧
      decipher t (l, r) = ((h 8).2 ^^^ subkey t 0, (h 8).1))

/-- R90: encipher and decipher are inverses of each other, for every content of P and S. -/
def Obligations.EncipherDecipherInverse : Prop :=
  ∀ (t : Tables) (h : Halves), decipher t (encipher t h) = h ∧ encipher t (decipher t h) = h

/-- BLK_ENC (R92): XL and XR become their encipherment and nothing else changes but the completion; without a schedule it
reports NoSchedule and changes nothing else. -/
def Obligations.BlkEncResult : Prop :=
  (∀ s : State, s.schedValid = true → ∃ t, exec .blkEnc s = .next t ∧
    t = { s.completedAs t with
          xl := (encipher s.dp.tables (s.xl, s.xr)).1, xr := (encipher s.dp.tables (s.xl, s.xr)).2 }) ∧
  (∀ s : State, s.schedValid = false → exec .blkEnc s = .next (s.failedWith .noSchedule))

/-- BLK_DEC (R93), in the same form. -/
def Obligations.BlkDecResult : Prop :=
  (∀ s : State, s.schedValid = true → ∃ t, exec .blkDec s = .next t ∧
    t = { s.completedAs t with
          xl := (decipher s.dp.tables (s.xl, s.xr)).1, xr := (decipher s.dp.tables (s.xl, s.xr)).2 }) ∧
  (∀ s : State, s.schedValid = false → exec .blkDec s = .next (s.failedWith .noSchedule))

/-- BLK_ENC followed by BLK_DEC restores XL and XR, and the other way round (R93, R90), under any CTRL set between them
(the raw commands ignore WORD_ORDER, R92, R145). -/
def Obligations.RawCommandsUndoEachOther : Prop :=
  ∀ (s : State) (c : Ctrl), s.schedValid = true →
    (∃ t u, exec .blkEnc s = .next t ∧ exec .blkDec { t with ctrl := c } = .next u ∧ u.xl = s.xl ∧ u.xr = s.xr) ∧
    (∃ t u, exec .blkDec s = .next t ∧ exec .blkEnc { t with ctrl := c } = .next u ∧ u.xl = s.xl ∧ u.xr = s.xr)

/-! ## Mode controller -/

/-- R94 by number: with byte i of the block `blk / 2^(56-8i) mod 2^8`, standard order reads bytes 0-3 and 4-7 big-endian as
left and right; non-standard order reads bytes 0-3 little-endian as right and bytes 4-7 little-endian as left. -/
def Obligations.BlockToHalves : Prop :=
  ∀ blk : Block,
    let B := fun i : Nat => blk.toNat / 2 ^ (56 - 8 * i) % 2 ^ 8
    (b2h blk false).1.toNat = B 0 * 2 ^ 24 + B 1 * 2 ^ 16 + B 2 * 2 ^ 8 + B 3 ∧
    (b2h blk false).2.toNat = B 4 * 2 ^ 24 + B 5 * 2 ^ 16 + B 6 * 2 ^ 8 + B 7 ∧
    (b2h blk true).2.toNat = B 3 * 2 ^ 24 + B 2 * 2 ^ 16 + B 1 * 2 ^ 8 + B 0 ∧
    (b2h blk true).1.toNat = B 7 * 2 ^ 24 + B 6 * 2 ^ 16 + B 5 * 2 ^ 8 + B 4

/-- R96: the two conversions are inverses, XOR commutes with them, hence the CBC XOR may be done on bytes or on halves, and
the example. -/
def Obligations.WordOrderLaws : Prop :=
  (∀ (blk : Block) (wo : Bool), h2b (b2h blk wo) wo = blk) ∧
  (∀ (h : Halves) (wo : Bool), b2h (h2b h wo) wo = h) ∧
  (∀ (a b : Block) (wo : Bool), b2h (a ^^^ b) wo = ((b2h a wo).1 ^^^ (b2h b wo).1, (b2h a wo).2 ^^^ (b2h b wo).2)) ∧
  (∀ (h : Halves) (b : Block) (wo : Bool),
    h2b h wo ^^^ b = h2b (h.1 ^^^ (b2h b wo).1, h.2 ^^^ (b2h b wo).2) wo) ∧
  b2h 0x0011223344556677 false = (0x00112233, 0x44556677) ∧
  b2h 0x0011223344556677 true = (0x77665544, 0x33221100)

/-- R101: `strip(O, N)` is the index of the last non-zero byte plus one, or 0 if every byte is zero. -/
def Obligations.StripIsLastNonzero : Prop :=
  ∀ (O : Nat → Byte) (N : Nat),
    strip O N ≤ N ∧ (∀ i, strip O N ≤ i → i < N → O i = 0) ∧ (0 < strip O N → O (strip O N - 1) ≠ 0) ∧
    ((∀ i, i < N → O i = 0) → strip O N = 0)

/-- ECB_ENC (R100): with a schedule and MSGLEN <= MSG_MAX, block b of OUTBUF is the encipherment of block b of the padded
message, OUTLEN = N, every OUTBUF byte from N on is as before (R99), and nothing else changes but the completion. -/
def Obligations.EcbEncResult : Prop :=
  ∀ s : State, s.cfg.Legal → s.outbuf.wf → s.schedValid = true → s.msglen.toNat ≤ s.cfg.msgMax →
    ∃ t, exec .ecbEnc s = .next t ∧
      (∀ b, 8 * b < s.paddedLength →
        t.outputBlock b = encipherBlock s.dp.tables s.ctrl.wordOrder (s.messageBlock b)) ∧
      (∀ a, s.paddedLength ≤ a → t.outbufByte a = s.outbufByte a) ∧
      t.outlen.toNat = s.paddedLength ∧
      t = { s.completedAs t with outbuf := t.outbuf, outlen := t.outlen }

/-- ECB_DEC (R102): in the same form with decipher, and OUTLEN is the stripped length of the output. -/
def Obligations.EcbDecResult : Prop :=
  ∀ s : State, s.cfg.Legal → s.outbuf.wf → s.schedValid = true → s.msglen.toNat ≤ s.cfg.msgMax →
    ∃ t, exec .ecbDec s = .next t ∧
      (∀ b, 8 * b < s.paddedLength →
        t.outputBlock b = decipherBlock s.dp.tables s.ctrl.wordOrder (s.messageBlock b)) ∧
      (∀ a, s.paddedLength ≤ a → t.outbufByte a = s.outbufByte a) ∧
      t.outlen.toNat = strip t.outbufByte s.paddedLength ∧
      t = { s.completedAs t with outbuf := t.outbuf, outlen := t.outlen }

/-- CBC_ENC (R103, R109): with a schedule, MSGLEN <= MSG_MAX and an IV held or AUTO_IV = 1, block b of OUTBUF is the
encipherment of message block b XORed with the IV (b = 0) or with the ciphertext block before it; a missing IV is one draw,
kept in IVREG; a held IV is not changed. -/
def Obligations.CbcEncResult : Prop :=
  ∀ s : State, s.cfg.Legal → s.outbuf.wf → s.schedValid = true → s.msglen.toNat ≤ s.cfg.msgMax →
    s.ivValid = true ∨ s.ctrl.autoIv = true →
    let iv := if s.ivValid then s.ivreg else Config.entData s.entDraws
    ∃ t, exec .cbcEnc s = .next t ∧
      (∀ b, 8 * b < s.paddedLength →
        t.outputBlock b = encipherBlock s.dp.tables s.ctrl.wordOrder
          (s.messageBlock b ^^^ if b = 0 then iv else t.outputBlock (b - 1))) ∧
      (∀ a, s.paddedLength ≤ a → t.outbufByte a = s.outbufByte a) ∧
      t.outlen.toNat = s.paddedLength ∧
      t = { s.completedAs t with
            outbuf := t.outbuf, outlen := t.outlen, ivreg := iv, ivValid := true,
            entDraws := if s.ivValid then s.entDraws else s.entDraws + 1 }

/-- CBC_DEC (R104): with a schedule, MSGLEN <= MSG_MAX and an IV held, block b of OUTBUF is the decipherment of message block
b XORed with the IV (b = 0) or with message block b - 1, "the original ciphertext, not the output"; OUTLEN = N, no strip. -/
def Obligations.CbcDecResult : Prop :=
  ∀ s : State, s.cfg.Legal → s.outbuf.wf → s.schedValid = true → s.msglen.toNat ≤ s.cfg.msgMax → s.ivValid = true →
    ∃ t, exec .cbcDec s = .next t ∧
      (∀ b, 8 * b < s.paddedLength →
        t.outputBlock b = decipherBlock s.dp.tables s.ctrl.wordOrder (s.messageBlock b) ^^^
          (if b = 0 then s.ivreg else s.messageBlock (b - 1))) ∧
      (∀ a, s.paddedLength ≤ a → t.outbufByte a = s.outbufByte a) ∧
      t.outlen.toNat = s.paddedLength ∧
      t = { s.completedAs t with outbuf := t.outbuf, outlen := t.outlen }

/-- R99: a message command that succeeds writes every byte of OUTBUF[0..N) and OUTLEN, and leaves OUTBUF[N..) unchanged; one
that fails writes neither. -/
def Obligations.MessageCommandsWriteAllOrNothing : Prop :=
  ∀ (i : Instr) (s t : State), isMessage i = true → s.outbuf.wf → exec i s = .next t →
    (t.err = .ok → (∀ a, a < s.paddedLength → (t.outbuf.find a).isSome = true) ∧
      (∀ a, s.paddedLength ≤ a → t.outbufByte a = s.outbufByte a) ∧
      t.outlen = if i = .ecbDec then BitVec.ofNat 32 (strip t.outbufByte s.paddedLength)
        else BitVec.ofNat 32 s.paddedLength) ∧
    (t.err ≠ .ok → t.outbuf = s.outbuf ∧ t.outlen = s.outlen)

/-- The padded message (R97): N is "the least multiple of 8 that is >= n" (R10) for n = MSGLEN; its byte i is INBUF byte i below
MSGLEN and 0 from MSGLEN on; byte j of block b, of the message as of OUTBUF, is byte 8b + j, the first one the most significant
(log 11). The result of a message command depends on INBUF only below MSGLEN: "INBUF bytes from MSGLEN up to ceil8(MSGLEN) are
not read" (R148). -/
def Obligations.PaddingIgnoresInbuf : Prop :=
  ∀ s : State,
    (s.msglen.toNat ≤ s.paddedLength ∧ s.paddedLength < s.msglen.toNat + 8 ∧ s.paddedLength % 8 = 0) ∧
    (∀ i, i < s.msglen.toNat → s.messageByte i = s.inbufByte i) ∧
    (∀ i, s.msglen.toNat ≤ i → s.messageByte i = 0) ∧
    (∀ b j, j < 8 →
      (s.messageBlock b).toNat / 2 ^ (56 - 8 * j) % 2 ^ 8 = (s.messageByte (8 * b + j)).toNat ∧
      (s.outputBlock b).toNat / 2 ^ (56 - 8 * j) % 2 ^ 8 = (s.outbufByte (8 * b + j)).toNat) ∧
    (∀ (i : Instr) (t : State) (m : Memory), isMessage i = true →
      (∀ a, a < s.msglen.toNat → (m.find a).getD (Config.inbufReset s.resets a) = s.inbufByte a) →
      exec i s = .next t → exec i { s with inbuf := m } = .next { t with inbuf := m })

/-- R105, ECB: ECB_DEC on what ECB_ENC left (any state `u` that holds its output as the message, under the same tables and
word order) gives back the padded message, and OUTLEN is its stripped length. -/
def Obligations.EcbRoundTrip : Prop :=
  ∀ s t u : State, s.cfg.Legal → s.outbuf.wf → u.outbuf.wf → exec .ecbEnc s = .next t → t.err = .ok →
    u.cfg = s.cfg → u.schedValid = true → u.dp.tables = s.dp.tables → u.ctrl.wordOrder = s.ctrl.wordOrder →
    u.msglen = t.outlen → (∀ a, a < t.outlen.toNat → u.inbufByte a = t.outbufByte a) →
    ∃ v, exec .ecbDec u = .next v ∧ v.err = .ok ∧
      (∀ a, a < s.paddedLength → v.outbufByte a = s.messageByte a) ∧
      v.outlen.toNat = strip s.messageByte s.paddedLength

/-- R105, CBC: CBC_DEC on what CBC_ENC left, with the same IVREG, tables and word order, gives back the padded message with
OUTLEN = N. -/
def Obligations.CbcRoundTrip : Prop :=
  ∀ s t u : State, s.cfg.Legal → s.outbuf.wf → u.outbuf.wf → exec .cbcEnc s = .next t → t.err = .ok →
    u.cfg = s.cfg → u.schedValid = true → u.dp.tables = s.dp.tables → u.ctrl.wordOrder = s.ctrl.wordOrder →
    u.ivValid = true → u.ivreg = t.ivreg →
    u.msglen = t.outlen → (∀ a, a < t.outlen.toNat → u.inbufByte a = t.outbufByte a) →
    ∃ v, exec .cbcDec u = .next v ∧ v.err = .ok ∧
      (∀ a, a < s.paddedLength → v.outbufByte a = s.messageByte a) ∧
      v.outlen.toNat = s.paddedLength

/-- "A wrong IV corrupts only the first plaintext block" (R104): under another IV, OUTBUF from byte 8 on and OUTLEN are the
same. -/
def Obligations.WrongIvCorruptsOnlyFirstBlock : Prop :=
  ∀ (s t t' : State) (iv : Block), s.outbuf.wf → exec .cbcDec s = .next t → exec .cbcDec { s with ivreg := iv } = .next t' →
    t'.err = t.err ∧ t'.outlen = t.outlen ∧ ∀ a, 8 ≤ a → t'.outbufByte a = t.outbufByte a

/-! ## IV management -/

/-- SET_IV (R107): length 8 copies IVSTAGE to IVREG and sets IV_VALID, with no need of a schedule; any other length reports
InvalidIVLength and changes nothing else. -/
def Obligations.SetIvResult : Prop :=
  (∀ s : State, ∃ t, exec (.setIv 8) s = .next t ∧
    t = { s.completedAs t with ivreg := s.ivstage, ivValid := true }) ∧
  (∀ (n : Nat) (s : State), n ≠ 8 → exec (.setIv n) s = .next (s.failedWith .invalidIvLength))

/-- GEN_IV (R108, R110): one draw of the entropy source goes to IVREG, IV0 reads its high word and IV1 its low word, IV_VALID
is set; the draw is consumed. -/
def Obligations.GenIvResult : Prop :=
  ∀ s : State, ∃ t, exec .genIv s = .next t ∧
    t = { s.completedAs t with
          ivreg := Config.entData s.entDraws, ivValid := true, entDraws := s.entDraws + 1 } ∧
    busRead 0x0020 t = .data ((Config.entData s.entDraws).extractLsb' 32 32) ∧
    busRead 0x0024 t = .data ((Config.entData s.entDraws).extractLsb' 0 32)

/-- R109: a CBC_ENC that finds IV_VALID = 0 after its common checks draws an IV once when AUTO_IV = 1, keeps it in IVREG and
lets the host read it through IV0 and IV1, and completes with IVNotSet changing nothing when AUTO_IV = 0; CBC_DEC never draws. -/
def Obligations.AutomaticIv : Prop :=
  (∀ s : State, s.schedValid = true → s.msglen.toNat ≤ s.cfg.msgMax → s.ivValid = false → s.ctrl.autoIv = true →
    ∃ t, exec .cbcEnc s = .next t ∧ t.err = .ok ∧ t.ivreg = Config.entData s.entDraws ∧ t.ivValid = true ∧
      t.entDraws = s.entDraws + 1 ∧
      busRead 0x0020 t = .data ((Config.entData s.entDraws).extractLsb' 32 32) ∧
      busRead 0x0024 t = .data ((Config.entData s.entDraws).extractLsb' 0 32)) ∧
  (∀ s : State, s.schedValid = true → s.msglen.toNat ≤ s.cfg.msgMax → s.ivValid = false → s.ctrl.autoIv = false →
    exec .cbcEnc s = .next (s.failedWith .ivNotSet)) ∧
  (∀ s t : State, exec .cbcDec s = .next t → t.ivreg = s.ivreg ∧ t.ivValid = s.ivValid ∧ t.entDraws = s.entDraws)

/-! ## Host bus -/

/-- R49: when a transaction returns `bus_error`, by the ranges of R50, and that it then changes no state of the engine (only
the answer is recorded). -/
def Obligations.BusErrorConditions : Prop :=
  ∀ s : State,
    (∀ off : BitVec 16, busRead off s = .busError ↔
      (off.toNat % 4 ≠ 0 ∨ ¬ MappedOffset s.cfg.msgMax off.toNat ∨
       ((∃ c, s.seq = .busy c) ∧ ¬ BusyReadableOffset off.toNat) ∨
       (s.schedValid = false ∧ WindowOffset off.toNat))) ∧
    (∀ (off : BitVec 16) (data : Word), busWrite off data s = none ↔
      (off.toNat % 4 ≠ 0 ∨ ¬ MappedOffset s.cfg.msgMax off.toNat ∨ ReadOnlyOffset s.cfg.msgMax off.toNat ∨
       (∃ c, s.seq = .busy c))) ∧
    (∀ (tr : Transaction), (serve tr s).responses = .busError :: s.responses →
      serve tr s = { s with responses := .busError :: s.responses })

/-- R59: while busy, CTRL, STATUS, CMD and PARAM read as they do while idle, every other read and every write returns
`bus_error`. -/
def Obligations.AccessWhileBusy : Prop :=
  ∀ (s : State) (c : Word), s.seq = .busy c →
    busRead 0x0000 s = .data (ctrlWord s.ctrl) ∧
    busRead 0x0004 s = .data (statusWord s) ∧
    busRead 0x0008 s = .data s.cmd ∧
    busRead 0x001C s = .data (BitVec.ofNat 32 s.cfg.msgMax) ∧
    (∀ t : State, t.seq = .idle →
      busRead 0x0000 t = .data (ctrlWord t.ctrl) ∧ busRead 0x0004 t = .data (statusWord t) ∧
      busRead 0x0008 t = .data t.cmd ∧ busRead 0x001C t = .data (BitVec.ofNat 32 t.cfg.msgMax)) ∧
    (∀ off : BitVec 16, off ≠ 0x0000 → off ≠ 0x0004 → off ≠ 0x0008 → off ≠ 0x001C → busRead off s = .busError) ∧
    (∀ (off : BitVec 16) (data : Word), busWrite off data s = none)

/-- R53: every word window onto a byte array packs big-endian, on reads and on writes (offsets `base + 4w` of KEYw, IVw,
IVSTAGEw, INBUFw and OUTBUFw), and the halves of a whole message block are two INBUF words under the standard word order. -/
def Obligations.WordWindowsAreBigEndian : Prop :=
  (∀ (s : State) (off : BitVec 16) (v : Word), busRead off s = .data v → ∀ w : Nat,
    (w < 14 → off.toNat = 0x0040 + 4 * w → PacksBigEndian s.keyByte w v) ∧
    (w < 2 → off.toNat = 0x0020 + 4 * w → PacksBigEndian (blockByte s.ivreg) w v) ∧
    (w < 2 → off.toNat = 0x0028 + 4 * w → PacksBigEndian (blockByte s.ivstage) w v) ∧
    (w < 0x1000 → off.toNat = 0x4000 + 4 * w → PacksBigEndian s.inbufByte w v) ∧
    (off.toNat = 0x8000 + 4 * w → PacksBigEndian s.outbufByte w v)) ∧
  (∀ (s t : State) (off : BitVec 16) (data : Word), s.inbuf.wf → busWrite off data s = some t → ∀ w j : Nat, j < 4 →
    (w < 14 → off.toNat = 0x0040 + 4 * w → (t.keyByte (4 * w + j)).toNat = data.toNat / 2 ^ (24 - 8 * j) % 2 ^ 8) ∧
    (w < 2 → off.toNat = 0x0028 + 4 * w → (blockByte t.ivstage (4 * w + j)).toNat = data.toNat / 2 ^ (24 - 8 * j) % 2 ^ 8) ∧
    (w < 0x1000 → off.toNat = 0x4000 + 4 * w →
      (t.inbufByte (4 * w + j)).toNat = data.toNat / 2 ^ (24 - 8 * j) % 2 ^ 8)) ∧
  (∀ (s : State) (b : Nat) (l r : Word), 8 * b + 8 ≤ s.msglen.toNat → 8 * b + 8 ≤ 0x4000 →
    busRead (BitVec.ofNat 16 (0x4000 + 4 * (2 * b))) s = .data l →
    busRead (BitVec.ofNat 16 (0x4000 + 4 * (2 * b + 1))) s = .data r → b2h (s.messageBlock b) false = (l, r))

/-- What the registers and the P and S windows read while idle (R21, R26, R31, R32, R42), by offset. -/
def Obligations.RegisterReads : Prop :=
  ∀ s : State, s.seq = .idle →
    busRead 0x000C s = .data s.msglen ∧ busRead 0x0010 s = .data s.outlen ∧
    busRead 0x0014 s = .data s.xl ∧ busRead 0x0018 s = .data s.xr ∧
    (s.schedValid = true →
      (∀ (i : Nat) (hi : i < 18), busRead (BitVec.ofNat 16 (0x0100 + 4 * i)) s = .data s.dp.tables.p[i]) ∧
      (∀ (k j : Nat) (hk : k < 4) (hj : j < 256),
        busRead (BitVec.ofNat 16 (0x1000 + 0x400 * k + 4 * j)) s = .data s.dp.tables.s[k][j]))

/-- A write to a data location (every writable location but CTRL, STATUS and CMD) that returns `ok` is read back (R53, R61),
and CTRL reads back its three fields (R27). -/
def Obligations.ReadAfterWrite : Prop :=
  ∀ (off : BitVec 16) (data : Word) (s t : State), s.inbuf.wf → busWrite off data s = some t →
    (off ≠ 0x0000 → off ≠ 0x0004 → off ≠ 0x0008 → busRead off t = .data data) ∧
    (off = 0x0000 → busRead off t = .data (data &&& 7))

/-- A write to one location, other than an issued command, leaves what every other location reads as it was (R57: "Writes to
every other RW location only store the data"; R61). -/
def Obligations.WriteLeavesOtherLocations : Prop :=
  ∀ (off off' : BitVec 16) (data : Word) (s t : State), s.inbuf.wf → off ≠ 0x0008 → off' ≠ off →
    busWrite off data s = some t → busRead off' t = busRead off' s

/-- Reads have no side effects (R57): a step that performs one only takes the event and records the answer. -/
def Obligations.ReadsHaveNoSideEffects : Prop :=
  ∀ (off : BitVec 16) (s : State) (rest : List Event), s.events = .bus (.read off) :: rest →
    step s = .next { s with events := rest, responses := busRead off s :: s.responses }

/-- R29: a write to STATUS while idle clears DONE if bit 1 is set and changes nothing else; while busy it returns `bus_error`. -/
def Obligations.StatusWrite : Prop :=
  ∀ (s : State) (data : Word),
    (s.seq = .idle → busWrite 0x0004 data s = some (if data.toNat / 2 % 2 = 1 then { s with done := false } else s)) ∧
    (∀ c, s.seq = .busy c → busWrite 0x0004 data s = none)

/-- STATUS by number (R28): BUSY + 2 DONE + 4 SCHED_VALID + 8 IV_VALID + 256 ERR, with the codes of R122, so that the
reserved bits read 0 (R37); CTRL by number (R27), and CTRL's reserved bits are ignored by a write (R37). -/
def Obligations.StatusAndCtrlLayout : Prop :=
  (∀ s : State, (statusWord s).toNat = s.isBusy.toNat + 2 * s.done.toNat + 4 * s.schedValid.toNat + 8 * s.ivValid.toNat +
    256 * s.err.code.toNat) ∧
  (∀ c : Ctrl, (ctrlWord c).toNat = c.wordOrder.toNat + 2 * c.autoIv.toNat + 4 * c.irqEn.toNat ∧
    ctrlOfWord (ctrlWord c) = c) ∧
  (∀ data : Word, ctrlOfWord data = ctrlOfWord (data &&& 7)) ∧
  Completion.ok.code = 0 ∧ Completion.invalidKeyLength.code = 1 ∧ Completion.invalidIvLength.code = 2 ∧
  Completion.ivNotSet.code = 3 ∧ Completion.noSchedule.code = 4 ∧ Completion.illegalCommand.code = 5 ∧
  Completion.lengthTooLarge.code = 6 ∧ (∀ k : Completion, k.code.toNat ≤ 6)

/-- irq is 1 exactly when STATUS.DONE = 1 and CTRL.IRQ_EN = 1, so a completion, with or without error, raises it exactly when
IRQ_EN = 1 (R126). R127: irq falls on a write of 1 to STATUS.DONE, on a write of CTRL with IRQ_EN = 0, on acceptance and on reset; a read of
STATUS leaves it. -/
def Obligations.IrqFalls : Prop :=
  (∀ s : State, irq s = true ↔ s.done = true ∧ s.ctrl.irqEn = true) ∧
  (∀ (i : Instr) (s t : State), exec i s = .next t → (irq t = true ↔ s.ctrl.irqEn = true)) ∧
  (∀ (s t : State) (data : Word), data.getLsbD 1 = true → busWrite 0x0004 data s = some t → irq t = false) ∧
  (∀ (s t : State) (data : Word), data.getLsbD 2 = false → busWrite 0x0000 data s = some t → irq t = false) ∧
  (∀ (s t : State) (c : Word), busWrite 0x0008 c s = some t → irq t = false) ∧
  (∀ s : State, irq (applyReset s) = false) ∧
  (∀ s : State, irq (serve (.read 0x0004) s) = irq s)

/-- "The only interrupt source is command completion, with or without error" (R126): DONE rises only in a step in which the
engine completes the command it held. When the engine has the turn is the model's choice (log 1). -/
def Obligations.DoneRisesOnlyByCompletion : Prop :=
  ∀ s t : State, step s = .next t → s.done = false → t.done = true →
    (∃ c, s.seq = .busy c) ∧ t.seq = .idle ∧ (s.events = [] ∨ s.events.head? = some .engine)

/-! ## Reset -/

/-- The reset event gives, from every state, the values of R138's table, whatever was going on (R138: "A command in progress
when reset is asserted is abandoned"); so does power-on reset. The values R138 leaves unspecified are not stated. -/
def Obligations.ResetValues : Prop :=
  (∀ (s : State) (rest : List Event), s.events = .reset :: rest → ∃ t, step s = .next t ∧
    t.seq = .idle ∧ busRead 0x0000 t = .data 0x00000002 ∧ busRead 0x0004 t = .data 0x00000000 ∧
    t.cmd = 0 ∧ t.msglen = 0 ∧ t.outlen = 0 ∧ t.xl = 0 ∧ t.xr = 0 ∧ t.ivreg = 0 ∧ t.ivstage = 0 ∧
    (∀ i, i < 56 → t.keyByte i = 0) ∧ t.cfg = s.cfg ∧ irq t = false ∧ t.schedValid = false ∧ t.ivValid = false ∧
    t.done = false ∧ t.err = .ok) ∧
  (State.reset.seq = .idle ∧ busRead 0x0000 State.reset = .data 0x00000002 ∧
    busRead 0x0004 State.reset = .data 0x00000000 ∧ busRead 0x001C State.reset = .data 0x00001000 ∧
    State.reset.cmd = 0 ∧ State.reset.msglen = 0 ∧ State.reset.outlen = 0 ∧ State.reset.xl = 0 ∧ State.reset.xr = 0 ∧
    State.reset.ivreg = 0 ∧ State.reset.ivstage = 0 ∧ (∀ i, i < 56 → State.reset.keyByte i = 0) ∧ irq State.reset = false)

/-- The check values of R46 over the constant tables of the reset state. -/
def Obligations.ConstantTableCheckValues : Prop :=
  let init := State.reset.cfg.init
  init.p.toList.foldl (· ^^^ ·) 0 = 0xB73AD7EA ∧
  init.p.toList.foldl (· + ·) 0 = 0x8E4D14CC ∧
  (init.s[0]).toList.foldl (· ^^^ ·) 0 = 0x4EB4DB7F ∧
  (init.s[1]).toList.foldl (· ^^^ ·) 0 = 0xC727E122 ∧
  (init.s[2]).toList.foldl (· ^^^ ·) 0 = 0x462A5D01 ∧
  (init.s[3]).toList.foldl (· ^^^ ·) 0 = 0x1779E2BC

/-! ## Whole-machine rules and invariants -/

/-- R40: SCHED_VALID is 0 at reset, becomes 1 in the step that completes a KEYSCHED with code 0, changes in no other step but a
reset; while it is 0 the six cipher commands complete with NoSchedule and the P and S windows return `bus_error`. -/
def Obligations.SchedValidRule : Prop :=
  State.reset.schedValid = false ∧
  (∀ (n : Nat) (s t : State), exec (.keysched n) s = .next t → t.schedValid = (s.schedValid || t.err == .ok)) ∧
  (∀ s t : State, step s = .next t → t.schedValid ≠ s.schedValid →
    (s.events.head? = some .reset ∧ t.schedValid = false) ∨
    (∃ c n, s.seq = .busy c ∧ decode c = .instr (.keysched n) ∧ t.err = .ok ∧ t.schedValid = true)) ∧
  (∀ (i : Instr) (s : State), needsSchedule i = true → s.schedValid = false →
    exec i s = .next (s.failedWith .noSchedule)) ∧
  (∀ (off : BitVec 16) (s : State), s.schedValid = false → WindowOffset off.toNat → busRead off s = .busError)

/-- R41: IV_VALID is 0 at reset, becomes 1 in the step that completes a successful SET_IV, GEN_IV or a CBC_ENC that drew an
IV, and no step but a reset sets it back to 0. -/
def Obligations.IvValidRule : Prop :=
  State.reset.ivValid = false ∧
  (∀ s t : State, exec (.setIv 8) s = .next t → t.ivValid = true) ∧
  (∀ s t : State, exec .genIv s = .next t → t.ivValid = true) ∧
  (∀ s t : State, exec .cbcEnc s = .next t → t.entDraws ≠ s.entDraws → t.ivValid = true) ∧
  (∀ s t : State, step s = .next t → t.ivValid ≠ s.ivValid →
    (s.events.head? = some .reset ∧ t.ivValid = false) ∨
    (∃ c, s.seq = .busy c ∧ t.err = .ok ∧ t.ivValid = true ∧
      (decode c = .instr (.setIv 8) ∨ decode c = .instr .genIv ∨
       (decode c = .instr .cbcEnc ∧ t.entDraws = s.entDraws + 1))))

/-- Nothing but a successful KEYSCHED writes P and S (R38, R39): any step keeps the working tables, runs a KEYSCHED of a valid
length and leaves the tables derived from KEYBUF, or is a reset. -/
def Obligations.OnlyKeyschedWritesTables : Prop :=
  ∀ s t : State, step s = .next t →
    t.dp.tables = s.dp.tables ∨ s.events.head? = some .reset ∨
    (∃ c n, s.seq = .busy c ∧ decode c = .instr (.keysched n) ∧ 1 ≤ n ∧ n ≤ 56 ∧
      t.dp.tables = (derive s.cfg.init s.keyByte n).tables)

/-- What no command writes: CTRL, KEYBUF, MSGLEN and INBUF (R149), IVSTAGE (R35), CMD (R30), the configuration (R33, R43),
and what the host has sent and been answered; the message commands, KEYSCHED and the IV commands leave XL and XR (R21). -/
def Obligations.CommandsLeaveHostInputs : Prop :=
  ∀ (i : Instr) (s t : State), exec i s = .next t →
    t.ctrl = s.ctrl ∧ t.keybuf = s.keybuf ∧ t.msglen = s.msglen ∧ t.inbuf = s.inbuf ∧ t.ivstage = s.ivstage ∧
    t.cmd = s.cmd ∧ t.cfg = s.cfg ∧ t.resets = s.resets ∧ t.events = s.events ∧ t.responses = s.responses ∧
    (i ≠ .blkEnc → i ≠ .blkDec → t.xl = s.xl ∧ t.xr = s.xr) ∧
    (isMessage i = false → t.outbuf = s.outbuf ∧ t.outlen = s.outlen)

/-- The machine never stops: every step answers a next state. This is the model's inference (log 12, DEDUCED): the spec says that
the engine takes no traps (R128) and how a model represents each outcome (R137), not this. -/
def Obligations.StepAlwaysAnswersNext : Prop :=
  ∀ s : State, ∃ t, step s = .next t

/-- Every step keeps the structural invariant: a legal configuration, RAMs in canonical form inside MSG_MAX, OUTLEN inside
MSG_MAX, a consistent STATUS while busy, a zero IVREG while no IV is held. -/
def Obligations.StepKeepsInv : Prop :=
  ∀ s t : State, s.Inv → step s = .next t → t.Inv

/-- The reset state meets the structural invariant. -/
def Obligations.ResetMeetsInv : Prop := State.reset.Inv

/-- Every step keeps this: while SCHED_VALID is 1 the working tables are those of some key of 1 to 56 bytes under the
instance's constant tables (R38, R39, R40, R86); the reset state meets it. -/
def Obligations.StepKeepsScheduled : Prop :=
  State.reset.Scheduled ∧ ∀ s t : State, s.Scheduled → step s = .next t → t.Scheduled

/-- "Every accepted command completes, unless reset intervenes" (R141), whatever the host does meanwhile (R123): from a busy
state, within one step more than the pending events, the engine is idle with DONE = 1, or a reset was pending before the
engine's turn, and the command is abandoned (R138). That the engine has the turn once no event is pending is the model's form
of this fairness (log 1). -/
def Obligations.AcceptedCommandCompletes : Prop :=
  ∀ (s : State) (c : Word), s.seq = .busy c →
    ∃ (k : Nat) (t : State), k ≤ s.events.length + 1 ∧ Sys2Proof.core.run k s = .next t ∧ t.seq = .idle ∧
      (t.done = true ∨ .reset ∈ s.events.takeWhile (· ≠ .engine))

/-! ## Host codec -/

/-- R114: `hexdec(hexenc(s)) = s` for every byte string. -/
def Obligations.HexRoundTrip : Prop :=
  ∀ s : List Byte, hexDec (hexEnc s) = s
end

