-- ==== Sys2Proof/Laws/State.lean ====
section
/-! SUPPORT. One lemma per field per named update of the state, each true by `rfl`, so that no proof unfolds a record update. -/

namespace Sys2Proof.Machine

/-! ### accept (R72) -/

@[simp] theorem accept_cfg (c : Word) (s : State) : (accept c s).cfg = s.cfg := rfl
@[simp] theorem accept_ctrl (c : Word) (s : State) : (accept c s).ctrl = s.ctrl := rfl
@[simp] theorem accept_done (c : Word) (s : State) : (accept c s).done = false := rfl
@[simp] theorem accept_err (c : Word) (s : State) : (accept c s).err = .ok := rfl
@[simp] theorem accept_schedValid (c : Word) (s : State) : (accept c s).schedValid = s.schedValid := rfl
@[simp] theorem accept_ivValid (c : Word) (s : State) : (accept c s).ivValid = s.ivValid := rfl
@[simp] theorem accept_seq (c : Word) (s : State) : (accept c s).seq = .busy c := rfl
@[simp] theorem accept_cmd (c : Word) (s : State) : (accept c s).cmd = c := rfl
@[simp] theorem accept_msglen (c : Word) (s : State) : (accept c s).msglen = s.msglen := rfl
@[simp] theorem accept_outlen (c : Word) (s : State) : (accept c s).outlen = s.outlen := rfl
@[simp] theorem accept_xl (c : Word) (s : State) : (accept c s).xl = s.xl := rfl
@[simp] theorem accept_xr (c : Word) (s : State) : (accept c s).xr = s.xr := rfl
@[simp] theorem accept_ivreg (c : Word) (s : State) : (accept c s).ivreg = s.ivreg := rfl
@[simp] theorem accept_ivstage (c : Word) (s : State) : (accept c s).ivstage = s.ivstage := rfl
@[simp] theorem accept_keybuf (c : Word) (s : State) : (accept c s).keybuf = s.keybuf := rfl
@[simp] theorem accept_dp (c : Word) (s : State) : (accept c s).dp = s.dp := rfl
@[simp] theorem accept_cv (c : Word) (s : State) : (accept c s).cv = s.cv := rfl
@[simp] theorem accept_inbuf (c : Word) (s : State) : (accept c s).inbuf = s.inbuf := rfl
@[simp] theorem accept_outbuf (c : Word) (s : State) : (accept c s).outbuf = s.outbuf := rfl
@[simp] theorem accept_entDraws (c : Word) (s : State) : (accept c s).entDraws = s.entDraws := rfl
@[simp] theorem accept_resets (c : Word) (s : State) : (accept c s).resets = s.resets := rfl
@[simp] theorem accept_idles (c : Word) (s : State) : (accept c s).idles = s.idles := rfl
@[simp] theorem accept_events (c : Word) (s : State) : (accept c s).events = s.events := rfl
@[simp] theorem accept_responses (c : Word) (s : State) : (accept c s).responses = s.responses := rfl

/-! ### finish (R123) -/

@[simp] theorem finish_cfg (k : Completion) (s : State) : (finish k s).cfg = s.cfg := rfl
@[simp] theorem finish_ctrl (k : Completion) (s : State) : (finish k s).ctrl = s.ctrl := rfl
@[simp] theorem finish_done (k : Completion) (s : State) : (finish k s).done = true := rfl
@[simp] theorem finish_err (k : Completion) (s : State) : (finish k s).err = k := rfl
@[simp] theorem finish_schedValid (k : Completion) (s : State) : (finish k s).schedValid = s.schedValid := rfl
@[simp] theorem finish_ivValid (k : Completion) (s : State) : (finish k s).ivValid = s.ivValid := rfl
@[simp] theorem finish_seq (k : Completion) (s : State) : (finish k s).seq = .idle := rfl
@[simp] theorem finish_cmd (k : Completion) (s : State) : (finish k s).cmd = s.cmd := rfl
@[simp] theorem finish_msglen (k : Completion) (s : State) : (finish k s).msglen = s.msglen := rfl
@[simp] theorem finish_outlen (k : Completion) (s : State) : (finish k s).outlen = s.outlen := rfl
@[simp] theorem finish_xl (k : Completion) (s : State) : (finish k s).xl = s.xl := rfl
@[simp] theorem finish_xr (k : Completion) (s : State) : (finish k s).xr = s.xr := rfl
@[simp] theorem finish_ivreg (k : Completion) (s : State) : (finish k s).ivreg = s.ivreg := rfl
@[simp] theorem finish_ivstage (k : Completion) (s : State) : (finish k s).ivstage = s.ivstage := rfl
@[simp] theorem finish_keybuf (k : Completion) (s : State) : (finish k s).keybuf = s.keybuf := rfl
@[simp] theorem finish_dp (k : Completion) (s : State) : (finish k s).dp = s.dp := rfl
@[simp] theorem finish_cv (k : Completion) (s : State) : (finish k s).cv = s.cv := rfl
@[simp] theorem finish_inbuf (k : Completion) (s : State) : (finish k s).inbuf = s.inbuf := rfl
@[simp] theorem finish_outbuf (k : Completion) (s : State) : (finish k s).outbuf = s.outbuf := rfl
@[simp] theorem finish_entDraws (k : Completion) (s : State) : (finish k s).entDraws = s.entDraws := rfl
@[simp] theorem finish_resets (k : Completion) (s : State) : (finish k s).resets = s.resets := rfl
@[simp] theorem finish_idles (k : Completion) (s : State) : (finish k s).idles = s.idles := rfl
@[simp] theorem finish_events (k : Completion) (s : State) : (finish k s).events = s.events := rfl
@[simp] theorem finish_responses (k : Completion) (s : State) : (finish k s).responses = s.responses := rfl

/-! ### raiseError (R123, R128) -/

@[simp] theorem raiseError_cfg (k : Completion) (s : State) : (raiseError k s).cfg = s.cfg := rfl
@[simp] theorem raiseError_ctrl (k : Completion) (s : State) : (raiseError k s).ctrl = s.ctrl := rfl
@[simp] theorem raiseError_done (k : Completion) (s : State) : (raiseError k s).done = true := rfl
@[simp] theorem raiseError_err (k : Completion) (s : State) : (raiseError k s).err = k := rfl
@[simp] theorem raiseError_schedValid (k : Completion) (s : State) : (raiseError k s).schedValid = s.schedValid := rfl
@[simp] theorem raiseError_ivValid (k : Completion) (s : State) : (raiseError k s).ivValid = s.ivValid := rfl
@[simp] theorem raiseError_seq (k : Completion) (s : State) : (raiseError k s).seq = .idle := rfl
@[simp] theorem raiseError_cmd (k : Completion) (s : State) : (raiseError k s).cmd = s.cmd := rfl
@[simp] theorem raiseError_msglen (k : Completion) (s : State) : (raiseError k s).msglen = s.msglen := rfl
@[simp] theorem raiseError_outlen (k : Completion) (s : State) : (raiseError k s).outlen = s.outlen := rfl
@[simp] theorem raiseError_xl (k : Completion) (s : State) : (raiseError k s).xl = s.xl := rfl
@[simp] theorem raiseError_xr (k : Completion) (s : State) : (raiseError k s).xr = s.xr := rfl
@[simp] theorem raiseError_ivreg (k : Completion) (s : State) : (raiseError k s).ivreg = s.ivreg := rfl
@[simp] theorem raiseError_ivstage (k : Completion) (s : State) : (raiseError k s).ivstage = s.ivstage := rfl
@[simp] theorem raiseError_keybuf (k : Completion) (s : State) : (raiseError k s).keybuf = s.keybuf := rfl
@[simp] theorem raiseError_dp (k : Completion) (s : State) : (raiseError k s).dp = s.dp := rfl
@[simp] theorem raiseError_cv (k : Completion) (s : State) : (raiseError k s).cv = s.cv := rfl
@[simp] theorem raiseError_inbuf (k : Completion) (s : State) : (raiseError k s).inbuf = s.inbuf := rfl
@[simp] theorem raiseError_outbuf (k : Completion) (s : State) : (raiseError k s).outbuf = s.outbuf := rfl
@[simp] theorem raiseError_entDraws (k : Completion) (s : State) : (raiseError k s).entDraws = s.entDraws := rfl
@[simp] theorem raiseError_resets (k : Completion) (s : State) : (raiseError k s).resets = s.resets := rfl
@[simp] theorem raiseError_idles (k : Completion) (s : State) : (raiseError k s).idles = s.idles := rfl
@[simp] theorem raiseError_events (k : Completion) (s : State) : (raiseError k s).events = s.events := rfl
@[simp] theorem raiseError_responses (k : Completion) (s : State) : (raiseError k s).responses = s.responses := rfl

/-! ### forgetHidden (R19, R20) -/

@[simp] theorem forgetHidden_cfg (s : State) : (forgetHidden s).cfg = s.cfg := rfl
@[simp] theorem forgetHidden_ctrl (s : State) : (forgetHidden s).ctrl = s.ctrl := rfl
@[simp] theorem forgetHidden_done (s : State) : (forgetHidden s).done = s.done := rfl
@[simp] theorem forgetHidden_err (s : State) : (forgetHidden s).err = s.err := rfl
@[simp] theorem forgetHidden_schedValid (s : State) : (forgetHidden s).schedValid = s.schedValid := rfl
@[simp] theorem forgetHidden_ivValid (s : State) : (forgetHidden s).ivValid = s.ivValid := rfl
@[simp] theorem forgetHidden_seq (s : State) : (forgetHidden s).seq = s.seq := rfl
@[simp] theorem forgetHidden_cmd (s : State) : (forgetHidden s).cmd = s.cmd := rfl
@[simp] theorem forgetHidden_msglen (s : State) : (forgetHidden s).msglen = s.msglen := rfl
@[simp] theorem forgetHidden_outlen (s : State) : (forgetHidden s).outlen = s.outlen := rfl
@[simp] theorem forgetHidden_xl (s : State) : (forgetHidden s).xl = s.xl := rfl
@[simp] theorem forgetHidden_xr (s : State) : (forgetHidden s).xr = s.xr := rfl
@[simp] theorem forgetHidden_ivreg (s : State) : (forgetHidden s).ivreg = s.ivreg := rfl
@[simp] theorem forgetHidden_ivstage (s : State) : (forgetHidden s).ivstage = s.ivstage := rfl
@[simp] theorem forgetHidden_keybuf (s : State) : (forgetHidden s).keybuf = s.keybuf := rfl
@[simp] theorem forgetHidden_dp (s : State) : (forgetHidden s).dp = ⟨s.dp.tables, Config.idleL s.idles, Config.idleR s.idles⟩ := rfl
@[simp] theorem forgetHidden_cv (s : State) : (forgetHidden s).cv = Config.idleCv s.idles := rfl
@[simp] theorem forgetHidden_inbuf (s : State) : (forgetHidden s).inbuf = s.inbuf := rfl
@[simp] theorem forgetHidden_outbuf (s : State) : (forgetHidden s).outbuf = s.outbuf := rfl
@[simp] theorem forgetHidden_entDraws (s : State) : (forgetHidden s).entDraws = s.entDraws := rfl
@[simp] theorem forgetHidden_resets (s : State) : (forgetHidden s).resets = s.resets := rfl
@[simp] theorem forgetHidden_idles (s : State) : (forgetHidden s).idles = s.idles + 1 := rfl
@[simp] theorem forgetHidden_events (s : State) : (forgetHidden s).events = s.events := rfl
@[simp] theorem forgetHidden_responses (s : State) : (forgetHidden s).responses = s.responses := rfl

/-! ### completeOk (R123) -/

@[simp] theorem completeOk_cfg (s : State) : (completeOk s).cfg = s.cfg := rfl
@[simp] theorem completeOk_ctrl (s : State) : (completeOk s).ctrl = s.ctrl := rfl
@[simp] theorem completeOk_done (s : State) : (completeOk s).done = true := rfl
@[simp] theorem completeOk_err (s : State) : (completeOk s).err = .ok := rfl
@[simp] theorem completeOk_schedValid (s : State) : (completeOk s).schedValid = s.schedValid := rfl
@[simp] theorem completeOk_ivValid (s : State) : (completeOk s).ivValid = s.ivValid := rfl
@[simp] theorem completeOk_seq (s : State) : (completeOk s).seq = .idle := rfl
@[simp] theorem completeOk_cmd (s : State) : (completeOk s).cmd = s.cmd := rfl
@[simp] theorem completeOk_msglen (s : State) : (completeOk s).msglen = s.msglen := rfl
@[simp] theorem completeOk_outlen (s : State) : (completeOk s).outlen = s.outlen := rfl
@[simp] theorem completeOk_xl (s : State) : (completeOk s).xl = s.xl := rfl
@[simp] theorem completeOk_xr (s : State) : (completeOk s).xr = s.xr := rfl
@[simp] theorem completeOk_ivreg (s : State) : (completeOk s).ivreg = s.ivreg := rfl
@[simp] theorem completeOk_ivstage (s : State) : (completeOk s).ivstage = s.ivstage := rfl
@[simp] theorem completeOk_keybuf (s : State) : (completeOk s).keybuf = s.keybuf := rfl
@[simp] theorem completeOk_dp (s : State) : (completeOk s).dp = ⟨s.dp.tables, Config.idleL s.idles, Config.idleR s.idles⟩ := rfl
@[simp] theorem completeOk_cv (s : State) : (completeOk s).cv = Config.idleCv s.idles := rfl
@[simp] theorem completeOk_inbuf (s : State) : (completeOk s).inbuf = s.inbuf := rfl
@[simp] theorem completeOk_outbuf (s : State) : (completeOk s).outbuf = s.outbuf := rfl
@[simp] theorem completeOk_entDraws (s : State) : (completeOk s).entDraws = s.entDraws := rfl
@[simp] theorem completeOk_resets (s : State) : (completeOk s).resets = s.resets := rfl
@[simp] theorem completeOk_idles (s : State) : (completeOk s).idles = s.idles + 1 := rfl
@[simp] theorem completeOk_events (s : State) : (completeOk s).events = s.events := rfl
@[simp] theorem completeOk_responses (s : State) : (completeOk s).responses = s.responses := rfl

/-! ### acknowledge (R29) -/

@[simp] theorem acknowledge_cfg (s : State) : (acknowledge s).cfg = s.cfg := rfl
@[simp] theorem acknowledge_ctrl (s : State) : (acknowledge s).ctrl = s.ctrl := rfl
@[simp] theorem acknowledge_done (s : State) : (acknowledge s).done = false := rfl
@[simp] theorem acknowledge_err (s : State) : (acknowledge s).err = s.err := rfl
@[simp] theorem acknowledge_schedValid (s : State) : (acknowledge s).schedValid = s.schedValid := rfl
@[simp] theorem acknowledge_ivValid (s : State) : (acknowledge s).ivValid = s.ivValid := rfl
@[simp] theorem acknowledge_seq (s : State) : (acknowledge s).seq = s.seq := rfl
@[simp] theorem acknowledge_cmd (s : State) : (acknowledge s).cmd = s.cmd := rfl
@[simp] theorem acknowledge_msglen (s : State) : (acknowledge s).msglen = s.msglen := rfl
@[simp] theorem acknowledge_outlen (s : State) : (acknowledge s).outlen = s.outlen := rfl
@[simp] theorem acknowledge_xl (s : State) : (acknowledge s).xl = s.xl := rfl
@[simp] theorem acknowledge_xr (s : State) : (acknowledge s).xr = s.xr := rfl
@[simp] theorem acknowledge_ivreg (s : State) : (acknowledge s).ivreg = s.ivreg := rfl
@[simp] theorem acknowledge_ivstage (s : State) : (acknowledge s).ivstage = s.ivstage := rfl
@[simp] theorem acknowledge_keybuf (s : State) : (acknowledge s).keybuf = s.keybuf := rfl
@[simp] theorem acknowledge_dp (s : State) : (acknowledge s).dp = s.dp := rfl
@[simp] theorem acknowledge_cv (s : State) : (acknowledge s).cv = s.cv := rfl
@[simp] theorem acknowledge_inbuf (s : State) : (acknowledge s).inbuf = s.inbuf := rfl
@[simp] theorem acknowledge_outbuf (s : State) : (acknowledge s).outbuf = s.outbuf := rfl
@[simp] theorem acknowledge_entDraws (s : State) : (acknowledge s).entDraws = s.entDraws := rfl
@[simp] theorem acknowledge_resets (s : State) : (acknowledge s).resets = s.resets := rfl
@[simp] theorem acknowledge_idles (s : State) : (acknowledge s).idles = s.idles := rfl
@[simp] theorem acknowledge_events (s : State) : (acknowledge s).events = s.events := rfl
@[simp] theorem acknowledge_responses (s : State) : (acknowledge s).responses = s.responses := rfl

/-! ### drawIv (R110) -/

@[simp] theorem drawIv_cfg (s : State) : (drawIv s).cfg = s.cfg := rfl
@[simp] theorem drawIv_ctrl (s : State) : (drawIv s).ctrl = s.ctrl := rfl
@[simp] theorem drawIv_done (s : State) : (drawIv s).done = s.done := rfl
@[simp] theorem drawIv_err (s : State) : (drawIv s).err = s.err := rfl
@[simp] theorem drawIv_schedValid (s : State) : (drawIv s).schedValid = s.schedValid := rfl
@[simp] theorem drawIv_ivValid (s : State) : (drawIv s).ivValid = true := rfl
@[simp] theorem drawIv_seq (s : State) : (drawIv s).seq = s.seq := rfl
@[simp] theorem drawIv_cmd (s : State) : (drawIv s).cmd = s.cmd := rfl
@[simp] theorem drawIv_msglen (s : State) : (drawIv s).msglen = s.msglen := rfl
@[simp] theorem drawIv_outlen (s : State) : (drawIv s).outlen = s.outlen := rfl
@[simp] theorem drawIv_xl (s : State) : (drawIv s).xl = s.xl := rfl
@[simp] theorem drawIv_xr (s : State) : (drawIv s).xr = s.xr := rfl
@[simp] theorem drawIv_ivreg (s : State) : (drawIv s).ivreg = Config.entData s.entDraws := rfl
@[simp] theorem drawIv_ivstage (s : State) : (drawIv s).ivstage = s.ivstage := rfl
@[simp] theorem drawIv_keybuf (s : State) : (drawIv s).keybuf = s.keybuf := rfl
@[simp] theorem drawIv_dp (s : State) : (drawIv s).dp = s.dp := rfl
@[simp] theorem drawIv_cv (s : State) : (drawIv s).cv = s.cv := rfl
@[simp] theorem drawIv_inbuf (s : State) : (drawIv s).inbuf = s.inbuf := rfl
@[simp] theorem drawIv_outbuf (s : State) : (drawIv s).outbuf = s.outbuf := rfl
@[simp] theorem drawIv_entDraws (s : State) : (drawIv s).entDraws = s.entDraws + 1 := rfl
@[simp] theorem drawIv_resets (s : State) : (drawIv s).resets = s.resets := rfl
@[simp] theorem drawIv_idles (s : State) : (drawIv s).idles = s.idles := rfl
@[simp] theorem drawIv_events (s : State) : (drawIv s).events = s.events := rfl
@[simp] theorem drawIv_responses (s : State) : (drawIv s).responses = s.responses := rfl

/-! ### storeOutBlock (R60) -/

@[simp] theorem storeOutBlock_cfg (b : Nat) (x : Block) (s : State) : (storeOutBlock b x s).cfg = s.cfg := rfl
@[simp] theorem storeOutBlock_ctrl (b : Nat) (x : Block) (s : State) : (storeOutBlock b x s).ctrl = s.ctrl := rfl
@[simp] theorem storeOutBlock_done (b : Nat) (x : Block) (s : State) : (storeOutBlock b x s).done = s.done := rfl
@[simp] theorem storeOutBlock_err (b : Nat) (x : Block) (s : State) : (storeOutBlock b x s).err = s.err := rfl
@[simp] theorem storeOutBlock_schedValid (b : Nat) (x : Block) (s : State) : (storeOutBlock b x s).schedValid = s.schedValid := rfl
@[simp] theorem storeOutBlock_ivValid (b : Nat) (x : Block) (s : State) : (storeOutBlock b x s).ivValid = s.ivValid := rfl
@[simp] theorem storeOutBlock_seq (b : Nat) (x : Block) (s : State) : (storeOutBlock b x s).seq = s.seq := rfl
@[simp] theorem storeOutBlock_cmd (b : Nat) (x : Block) (s : State) : (storeOutBlock b x s).cmd = s.cmd := rfl
@[simp] theorem storeOutBlock_msglen (b : Nat) (x : Block) (s : State) : (storeOutBlock b x s).msglen = s.msglen := rfl
@[simp] theorem storeOutBlock_outlen (b : Nat) (x : Block) (s : State) : (storeOutBlock b x s).outlen = s.outlen := rfl
@[simp] theorem storeOutBlock_xl (b : Nat) (x : Block) (s : State) : (storeOutBlock b x s).xl = s.xl := rfl
@[simp] theorem storeOutBlock_xr (b : Nat) (x : Block) (s : State) : (storeOutBlock b x s).xr = s.xr := rfl
@[simp] theorem storeOutBlock_ivreg (b : Nat) (x : Block) (s : State) : (storeOutBlock b x s).ivreg = s.ivreg := rfl
@[simp] theorem storeOutBlock_ivstage (b : Nat) (x : Block) (s : State) : (storeOutBlock b x s).ivstage = s.ivstage := rfl
@[simp] theorem storeOutBlock_keybuf (b : Nat) (x : Block) (s : State) : (storeOutBlock b x s).keybuf = s.keybuf := rfl
@[simp] theorem storeOutBlock_dp (b : Nat) (x : Block) (s : State) : (storeOutBlock b x s).dp = s.dp := rfl
@[simp] theorem storeOutBlock_cv (b : Nat) (x : Block) (s : State) : (storeOutBlock b x s).cv = s.cv := rfl
@[simp] theorem storeOutBlock_inbuf (b : Nat) (x : Block) (s : State) : (storeOutBlock b x s).inbuf = s.inbuf := rfl
@[simp] theorem storeOutBlock_outbuf (b : Nat) (x : Block) (s : State) : (storeOutBlock b x s).outbuf = s.outbuf.storeBytes (8 * b) (blockBytes x) := rfl
@[simp] theorem storeOutBlock_entDraws (b : Nat) (x : Block) (s : State) : (storeOutBlock b x s).entDraws = s.entDraws := rfl
@[simp] theorem storeOutBlock_resets (b : Nat) (x : Block) (s : State) : (storeOutBlock b x s).resets = s.resets := rfl
@[simp] theorem storeOutBlock_idles (b : Nat) (x : Block) (s : State) : (storeOutBlock b x s).idles = s.idles := rfl
@[simp] theorem storeOutBlock_events (b : Nat) (x : Block) (s : State) : (storeOutBlock b x s).events = s.events := rfl
@[simp] theorem storeOutBlock_responses (b : Nat) (x : Block) (s : State) : (storeOutBlock b x s).responses = s.responses := rfl

/-! ### blockRaw (R92) -/

@[simp] theorem blockRaw_cfg (f : Datapath → Datapath) (s : State) : (blockRaw f s).cfg = s.cfg := rfl
@[simp] theorem blockRaw_ctrl (f : Datapath → Datapath) (s : State) : (blockRaw f s).ctrl = s.ctrl := rfl
@[simp] theorem blockRaw_done (f : Datapath → Datapath) (s : State) : (blockRaw f s).done = s.done := rfl
@[simp] theorem blockRaw_err (f : Datapath → Datapath) (s : State) : (blockRaw f s).err = s.err := rfl
@[simp] theorem blockRaw_schedValid (f : Datapath → Datapath) (s : State) : (blockRaw f s).schedValid = s.schedValid := rfl
@[simp] theorem blockRaw_ivValid (f : Datapath → Datapath) (s : State) : (blockRaw f s).ivValid = s.ivValid := rfl
@[simp] theorem blockRaw_seq (f : Datapath → Datapath) (s : State) : (blockRaw f s).seq = s.seq := rfl
@[simp] theorem blockRaw_cmd (f : Datapath → Datapath) (s : State) : (blockRaw f s).cmd = s.cmd := rfl
@[simp] theorem blockRaw_msglen (f : Datapath → Datapath) (s : State) : (blockRaw f s).msglen = s.msglen := rfl
@[simp] theorem blockRaw_outlen (f : Datapath → Datapath) (s : State) : (blockRaw f s).outlen = s.outlen := rfl
@[simp] theorem blockRaw_xl (f : Datapath → Datapath) (s : State) : (blockRaw f s).xl = (f (loadHalves (s.xl, s.xr) s.dp)).l := rfl
@[simp] theorem blockRaw_xr (f : Datapath → Datapath) (s : State) : (blockRaw f s).xr = (f (loadHalves (s.xl, s.xr) s.dp)).r := rfl
@[simp] theorem blockRaw_ivreg (f : Datapath → Datapath) (s : State) : (blockRaw f s).ivreg = s.ivreg := rfl
@[simp] theorem blockRaw_ivstage (f : Datapath → Datapath) (s : State) : (blockRaw f s).ivstage = s.ivstage := rfl
@[simp] theorem blockRaw_keybuf (f : Datapath → Datapath) (s : State) : (blockRaw f s).keybuf = s.keybuf := rfl
@[simp] theorem blockRaw_dp (f : Datapath → Datapath) (s : State) : (blockRaw f s).dp = f (loadHalves (s.xl, s.xr) s.dp) := rfl
@[simp] theorem blockRaw_cv (f : Datapath → Datapath) (s : State) : (blockRaw f s).cv = s.cv := rfl
@[simp] theorem blockRaw_inbuf (f : Datapath → Datapath) (s : State) : (blockRaw f s).inbuf = s.inbuf := rfl
@[simp] theorem blockRaw_outbuf (f : Datapath → Datapath) (s : State) : (blockRaw f s).outbuf = s.outbuf := rfl
@[simp] theorem blockRaw_entDraws (f : Datapath → Datapath) (s : State) : (blockRaw f s).entDraws = s.entDraws := rfl
@[simp] theorem blockRaw_resets (f : Datapath → Datapath) (s : State) : (blockRaw f s).resets = s.resets := rfl
@[simp] theorem blockRaw_idles (f : Datapath → Datapath) (s : State) : (blockRaw f s).idles = s.idles := rfl
@[simp] theorem blockRaw_events (f : Datapath → Datapath) (s : State) : (blockRaw f s).events = s.events := rfl
@[simp] theorem blockRaw_responses (f : Datapath → Datapath) (s : State) : (blockRaw f s).responses = s.responses := rfl

/-! ### cipherBlock (R100) -/

@[simp] theorem cipherBlock_cfg (f : Datapath → Datapath) (x : Block) (s : State) : (cipherBlock f x s).cfg = s.cfg := rfl
@[simp] theorem cipherBlock_ctrl (f : Datapath → Datapath) (x : Block) (s : State) : (cipherBlock f x s).ctrl = s.ctrl := rfl
@[simp] theorem cipherBlock_done (f : Datapath → Datapath) (x : Block) (s : State) : (cipherBlock f x s).done = s.done := rfl
@[simp] theorem cipherBlock_err (f : Datapath → Datapath) (x : Block) (s : State) : (cipherBlock f x s).err = s.err := rfl
@[simp] theorem cipherBlock_schedValid (f : Datapath → Datapath) (x : Block) (s : State) : (cipherBlock f x s).schedValid = s.schedValid := rfl
@[simp] theorem cipherBlock_ivValid (f : Datapath → Datapath) (x : Block) (s : State) : (cipherBlock f x s).ivValid = s.ivValid := rfl
@[simp] theorem cipherBlock_seq (f : Datapath → Datapath) (x : Block) (s : State) : (cipherBlock f x s).seq = s.seq := rfl
@[simp] theorem cipherBlock_cmd (f : Datapath → Datapath) (x : Block) (s : State) : (cipherBlock f x s).cmd = s.cmd := rfl
@[simp] theorem cipherBlock_msglen (f : Datapath → Datapath) (x : Block) (s : State) : (cipherBlock f x s).msglen = s.msglen := rfl
@[simp] theorem cipherBlock_outlen (f : Datapath → Datapath) (x : Block) (s : State) : (cipherBlock f x s).outlen = s.outlen := rfl
@[simp] theorem cipherBlock_xl (f : Datapath → Datapath) (x : Block) (s : State) : (cipherBlock f x s).xl = s.xl := rfl
@[simp] theorem cipherBlock_xr (f : Datapath → Datapath) (x : Block) (s : State) : (cipherBlock f x s).xr = s.xr := rfl
@[simp] theorem cipherBlock_ivreg (f : Datapath → Datapath) (x : Block) (s : State) : (cipherBlock f x s).ivreg = s.ivreg := rfl
@[simp] theorem cipherBlock_ivstage (f : Datapath → Datapath) (x : Block) (s : State) : (cipherBlock f x s).ivstage = s.ivstage := rfl
@[simp] theorem cipherBlock_keybuf (f : Datapath → Datapath) (x : Block) (s : State) : (cipherBlock f x s).keybuf = s.keybuf := rfl
@[simp] theorem cipherBlock_dp (f : Datapath → Datapath) (x : Block) (s : State) : (cipherBlock f x s).dp = f (loadHalves (b2h x s.ctrl.wordOrder) s.dp) := rfl
@[simp] theorem cipherBlock_cv (f : Datapath → Datapath) (x : Block) (s : State) : (cipherBlock f x s).cv = s.cv := rfl
@[simp] theorem cipherBlock_inbuf (f : Datapath → Datapath) (x : Block) (s : State) : (cipherBlock f x s).inbuf = s.inbuf := rfl
@[simp] theorem cipherBlock_outbuf (f : Datapath → Datapath) (x : Block) (s : State) : (cipherBlock f x s).outbuf = s.outbuf := rfl
@[simp] theorem cipherBlock_entDraws (f : Datapath → Datapath) (x : Block) (s : State) : (cipherBlock f x s).entDraws = s.entDraws := rfl
@[simp] theorem cipherBlock_resets (f : Datapath → Datapath) (x : Block) (s : State) : (cipherBlock f x s).resets = s.resets := rfl
@[simp] theorem cipherBlock_idles (f : Datapath → Datapath) (x : Block) (s : State) : (cipherBlock f x s).idles = s.idles := rfl
@[simp] theorem cipherBlock_events (f : Datapath → Datapath) (x : Block) (s : State) : (cipherBlock f x s).events = s.events := rfl
@[simp] theorem cipherBlock_responses (f : Datapath → Datapath) (x : Block) (s : State) : (cipherBlock f x s).responses = s.responses := rfl

/-! ### setOutlen (R32) -/

@[simp] theorem setOutlen_cfg (n : Nat) (s : State) : (setOutlen n s).cfg = s.cfg := rfl
@[simp] theorem setOutlen_ctrl (n : Nat) (s : State) : (setOutlen n s).ctrl = s.ctrl := rfl
@[simp] theorem setOutlen_done (n : Nat) (s : State) : (setOutlen n s).done = s.done := rfl
@[simp] theorem setOutlen_err (n : Nat) (s : State) : (setOutlen n s).err = s.err := rfl
@[simp] theorem setOutlen_schedValid (n : Nat) (s : State) : (setOutlen n s).schedValid = s.schedValid := rfl
@[simp] theorem setOutlen_ivValid (n : Nat) (s : State) : (setOutlen n s).ivValid = s.ivValid := rfl
@[simp] theorem setOutlen_seq (n : Nat) (s : State) : (setOutlen n s).seq = s.seq := rfl
@[simp] theorem setOutlen_cmd (n : Nat) (s : State) : (setOutlen n s).cmd = s.cmd := rfl
@[simp] theorem setOutlen_msglen (n : Nat) (s : State) : (setOutlen n s).msglen = s.msglen := rfl
@[simp] theorem setOutlen_outlen (n : Nat) (s : State) : (setOutlen n s).outlen = BitVec.ofNat 32 n := rfl
@[simp] theorem setOutlen_xl (n : Nat) (s : State) : (setOutlen n s).xl = s.xl := rfl
@[simp] theorem setOutlen_xr (n : Nat) (s : State) : (setOutlen n s).xr = s.xr := rfl
@[simp] theorem setOutlen_ivreg (n : Nat) (s : State) : (setOutlen n s).ivreg = s.ivreg := rfl
@[simp] theorem setOutlen_ivstage (n : Nat) (s : State) : (setOutlen n s).ivstage = s.ivstage := rfl
@[simp] theorem setOutlen_keybuf (n : Nat) (s : State) : (setOutlen n s).keybuf = s.keybuf := rfl
@[simp] theorem setOutlen_dp (n : Nat) (s : State) : (setOutlen n s).dp = s.dp := rfl
@[simp] theorem setOutlen_cv (n : Nat) (s : State) : (setOutlen n s).cv = s.cv := rfl
@[simp] theorem setOutlen_inbuf (n : Nat) (s : State) : (setOutlen n s).inbuf = s.inbuf := rfl
@[simp] theorem setOutlen_outbuf (n : Nat) (s : State) : (setOutlen n s).outbuf = s.outbuf := rfl
@[simp] theorem setOutlen_entDraws (n : Nat) (s : State) : (setOutlen n s).entDraws = s.entDraws := rfl
@[simp] theorem setOutlen_resets (n : Nat) (s : State) : (setOutlen n s).resets = s.resets := rfl
@[simp] theorem setOutlen_idles (n : Nat) (s : State) : (setOutlen n s).idles = s.idles := rfl
@[simp] theorem setOutlen_events (n : Nat) (s : State) : (setOutlen n s).events = s.events := rfl
@[simp] theorem setOutlen_responses (n : Nat) (s : State) : (setOutlen n s).responses = s.responses := rfl

/-! ### stripOutlen (R102) -/

@[simp] theorem stripOutlen_cfg (s : State) : (stripOutlen s).cfg = s.cfg := rfl
@[simp] theorem stripOutlen_ctrl (s : State) : (stripOutlen s).ctrl = s.ctrl := rfl
@[simp] theorem stripOutlen_done (s : State) : (stripOutlen s).done = s.done := rfl
@[simp] theorem stripOutlen_err (s : State) : (stripOutlen s).err = s.err := rfl
@[simp] theorem stripOutlen_schedValid (s : State) : (stripOutlen s).schedValid = s.schedValid := rfl
@[simp] theorem stripOutlen_ivValid (s : State) : (stripOutlen s).ivValid = s.ivValid := rfl
@[simp] theorem stripOutlen_seq (s : State) : (stripOutlen s).seq = s.seq := rfl
@[simp] theorem stripOutlen_cmd (s : State) : (stripOutlen s).cmd = s.cmd := rfl
@[simp] theorem stripOutlen_msglen (s : State) : (stripOutlen s).msglen = s.msglen := rfl
@[simp] theorem stripOutlen_outlen (s : State) : (stripOutlen s).outlen = BitVec.ofNat 32 (strip s.outbufByte (ceil8 s.msglen.toNat)) := rfl
@[simp] theorem stripOutlen_xl (s : State) : (stripOutlen s).xl = s.xl := rfl
@[simp] theorem stripOutlen_xr (s : State) : (stripOutlen s).xr = s.xr := rfl
@[simp] theorem stripOutlen_ivreg (s : State) : (stripOutlen s).ivreg = s.ivreg := rfl
@[simp] theorem stripOutlen_ivstage (s : State) : (stripOutlen s).ivstage = s.ivstage := rfl
@[simp] theorem stripOutlen_keybuf (s : State) : (stripOutlen s).keybuf = s.keybuf := rfl
@[simp] theorem stripOutlen_dp (s : State) : (stripOutlen s).dp = s.dp := rfl
@[simp] theorem stripOutlen_cv (s : State) : (stripOutlen s).cv = s.cv := rfl
@[simp] theorem stripOutlen_inbuf (s : State) : (stripOutlen s).inbuf = s.inbuf := rfl
@[simp] theorem stripOutlen_outbuf (s : State) : (stripOutlen s).outbuf = s.outbuf := rfl
@[simp] theorem stripOutlen_entDraws (s : State) : (stripOutlen s).entDraws = s.entDraws := rfl
@[simp] theorem stripOutlen_resets (s : State) : (stripOutlen s).resets = s.resets := rfl
@[simp] theorem stripOutlen_idles (s : State) : (stripOutlen s).idles = s.idles := rfl
@[simp] theorem stripOutlen_events (s : State) : (stripOutlen s).events = s.events := rfl
@[simp] theorem stripOutlen_responses (s : State) : (stripOutlen s).responses = s.responses := rfl

/-! ### loadCv (R103) -/

@[simp] theorem loadCv_cfg (s : State) : (loadCv s).cfg = s.cfg := rfl
@[simp] theorem loadCv_ctrl (s : State) : (loadCv s).ctrl = s.ctrl := rfl
@[simp] theorem loadCv_done (s : State) : (loadCv s).done = s.done := rfl
@[simp] theorem loadCv_err (s : State) : (loadCv s).err = s.err := rfl
@[simp] theorem loadCv_schedValid (s : State) : (loadCv s).schedValid = s.schedValid := rfl
@[simp] theorem loadCv_ivValid (s : State) : (loadCv s).ivValid = s.ivValid := rfl
@[simp] theorem loadCv_seq (s : State) : (loadCv s).seq = s.seq := rfl
@[simp] theorem loadCv_cmd (s : State) : (loadCv s).cmd = s.cmd := rfl
@[simp] theorem loadCv_msglen (s : State) : (loadCv s).msglen = s.msglen := rfl
@[simp] theorem loadCv_outlen (s : State) : (loadCv s).outlen = s.outlen := rfl
@[simp] theorem loadCv_xl (s : State) : (loadCv s).xl = s.xl := rfl
@[simp] theorem loadCv_xr (s : State) : (loadCv s).xr = s.xr := rfl
@[simp] theorem loadCv_ivreg (s : State) : (loadCv s).ivreg = s.ivreg := rfl
@[simp] theorem loadCv_ivstage (s : State) : (loadCv s).ivstage = s.ivstage := rfl
@[simp] theorem loadCv_keybuf (s : State) : (loadCv s).keybuf = s.keybuf := rfl
@[simp] theorem loadCv_dp (s : State) : (loadCv s).dp = s.dp := rfl
@[simp] theorem loadCv_cv (s : State) : (loadCv s).cv = s.ivreg := rfl
@[simp] theorem loadCv_inbuf (s : State) : (loadCv s).inbuf = s.inbuf := rfl
@[simp] theorem loadCv_outbuf (s : State) : (loadCv s).outbuf = s.outbuf := rfl
@[simp] theorem loadCv_entDraws (s : State) : (loadCv s).entDraws = s.entDraws := rfl
@[simp] theorem loadCv_resets (s : State) : (loadCv s).resets = s.resets := rfl
@[simp] theorem loadCv_idles (s : State) : (loadCv s).idles = s.idles := rfl
@[simp] theorem loadCv_events (s : State) : (loadCv s).events = s.events := rfl
@[simp] theorem loadCv_responses (s : State) : (loadCv s).responses = s.responses := rfl

/-! ### popEvent (log 1) -/

@[simp] theorem popEvent_cfg (s : State) : (popEvent s).cfg = s.cfg := rfl
@[simp] theorem popEvent_ctrl (s : State) : (popEvent s).ctrl = s.ctrl := rfl
@[simp] theorem popEvent_done (s : State) : (popEvent s).done = s.done := rfl
@[simp] theorem popEvent_err (s : State) : (popEvent s).err = s.err := rfl
@[simp] theorem popEvent_schedValid (s : State) : (popEvent s).schedValid = s.schedValid := rfl
@[simp] theorem popEvent_ivValid (s : State) : (popEvent s).ivValid = s.ivValid := rfl
@[simp] theorem popEvent_seq (s : State) : (popEvent s).seq = s.seq := rfl
@[simp] theorem popEvent_cmd (s : State) : (popEvent s).cmd = s.cmd := rfl
@[simp] theorem popEvent_msglen (s : State) : (popEvent s).msglen = s.msglen := rfl
@[simp] theorem popEvent_outlen (s : State) : (popEvent s).outlen = s.outlen := rfl
@[simp] theorem popEvent_xl (s : State) : (popEvent s).xl = s.xl := rfl
@[simp] theorem popEvent_xr (s : State) : (popEvent s).xr = s.xr := rfl
@[simp] theorem popEvent_ivreg (s : State) : (popEvent s).ivreg = s.ivreg := rfl
@[simp] theorem popEvent_ivstage (s : State) : (popEvent s).ivstage = s.ivstage := rfl
@[simp] theorem popEvent_keybuf (s : State) : (popEvent s).keybuf = s.keybuf := rfl
@[simp] theorem popEvent_dp (s : State) : (popEvent s).dp = s.dp := rfl
@[simp] theorem popEvent_cv (s : State) : (popEvent s).cv = s.cv := rfl
@[simp] theorem popEvent_inbuf (s : State) : (popEvent s).inbuf = s.inbuf := rfl
@[simp] theorem popEvent_outbuf (s : State) : (popEvent s).outbuf = s.outbuf := rfl
@[simp] theorem popEvent_entDraws (s : State) : (popEvent s).entDraws = s.entDraws := rfl
@[simp] theorem popEvent_resets (s : State) : (popEvent s).resets = s.resets := rfl
@[simp] theorem popEvent_idles (s : State) : (popEvent s).idles = s.idles := rfl
@[simp] theorem popEvent_events (s : State) : (popEvent s).events = s.events.tail := rfl
@[simp] theorem popEvent_responses (s : State) : (popEvent s).responses = s.responses := rfl

/-! ### respond (log 9) -/

@[simp] theorem respond_cfg (a : Response) (s : State) : (respond a s).cfg = s.cfg := rfl
@[simp] theorem respond_ctrl (a : Response) (s : State) : (respond a s).ctrl = s.ctrl := rfl
@[simp] theorem respond_done (a : Response) (s : State) : (respond a s).done = s.done := rfl
@[simp] theorem respond_err (a : Response) (s : State) : (respond a s).err = s.err := rfl
@[simp] theorem respond_schedValid (a : Response) (s : State) : (respond a s).schedValid = s.schedValid := rfl
@[simp] theorem respond_ivValid (a : Response) (s : State) : (respond a s).ivValid = s.ivValid := rfl
@[simp] theorem respond_seq (a : Response) (s : State) : (respond a s).seq = s.seq := rfl
@[simp] theorem respond_cmd (a : Response) (s : State) : (respond a s).cmd = s.cmd := rfl
@[simp] theorem respond_msglen (a : Response) (s : State) : (respond a s).msglen = s.msglen := rfl
@[simp] theorem respond_outlen (a : Response) (s : State) : (respond a s).outlen = s.outlen := rfl
@[simp] theorem respond_xl (a : Response) (s : State) : (respond a s).xl = s.xl := rfl
@[simp] theorem respond_xr (a : Response) (s : State) : (respond a s).xr = s.xr := rfl
@[simp] theorem respond_ivreg (a : Response) (s : State) : (respond a s).ivreg = s.ivreg := rfl
@[simp] theorem respond_ivstage (a : Response) (s : State) : (respond a s).ivstage = s.ivstage := rfl
@[simp] theorem respond_keybuf (a : Response) (s : State) : (respond a s).keybuf = s.keybuf := rfl
@[simp] theorem respond_dp (a : Response) (s : State) : (respond a s).dp = s.dp := rfl
@[simp] theorem respond_cv (a : Response) (s : State) : (respond a s).cv = s.cv := rfl
@[simp] theorem respond_inbuf (a : Response) (s : State) : (respond a s).inbuf = s.inbuf := rfl
@[simp] theorem respond_outbuf (a : Response) (s : State) : (respond a s).outbuf = s.outbuf := rfl
@[simp] theorem respond_entDraws (a : Response) (s : State) : (respond a s).entDraws = s.entDraws := rfl
@[simp] theorem respond_resets (a : Response) (s : State) : (respond a s).resets = s.resets := rfl
@[simp] theorem respond_idles (a : Response) (s : State) : (respond a s).idles = s.idles := rfl
@[simp] theorem respond_events (a : Response) (s : State) : (respond a s).events = s.events := rfl
@[simp] theorem respond_responses (a : Response) (s : State) : (respond a s).responses = a :: s.responses := rfl

/-! ### holdCommand (R72, log 8) -/

@[simp] theorem holdCommand_cfg (c : Word) (s : State) : (holdCommand c s).cfg = s.cfg := rfl
@[simp] theorem holdCommand_ctrl (c : Word) (s : State) : (holdCommand c s).ctrl = s.ctrl := rfl
@[simp] theorem holdCommand_done (c : Word) (s : State) : (holdCommand c s).done = false := rfl
@[simp] theorem holdCommand_err (c : Word) (s : State) : (holdCommand c s).err = .ok := rfl
@[simp] theorem holdCommand_schedValid (c : Word) (s : State) : (holdCommand c s).schedValid = s.schedValid := rfl
@[simp] theorem holdCommand_ivValid (c : Word) (s : State) : (holdCommand c s).ivValid = s.ivValid := rfl
@[simp] theorem holdCommand_seq (c : Word) (s : State) : (holdCommand c s).seq = .busy c := rfl
@[simp] theorem holdCommand_cmd (c : Word) (s : State) : (holdCommand c s).cmd = c := rfl
@[simp] theorem holdCommand_msglen (c : Word) (s : State) : (holdCommand c s).msglen = s.msglen := rfl
@[simp] theorem holdCommand_outlen (c : Word) (s : State) : (holdCommand c s).outlen = s.outlen := rfl
@[simp] theorem holdCommand_xl (c : Word) (s : State) : (holdCommand c s).xl = s.xl := rfl
@[simp] theorem holdCommand_xr (c : Word) (s : State) : (holdCommand c s).xr = s.xr := rfl
@[simp] theorem holdCommand_ivreg (c : Word) (s : State) : (holdCommand c s).ivreg = s.ivreg := rfl
@[simp] theorem holdCommand_ivstage (c : Word) (s : State) : (holdCommand c s).ivstage = s.ivstage := rfl
@[simp] theorem holdCommand_keybuf (c : Word) (s : State) : (holdCommand c s).keybuf = s.keybuf := rfl
@[simp] theorem holdCommand_dp (c : Word) (s : State) : (holdCommand c s).dp = s.dp := rfl
@[simp] theorem holdCommand_cv (c : Word) (s : State) : (holdCommand c s).cv = s.cv := rfl
@[simp] theorem holdCommand_inbuf (c : Word) (s : State) : (holdCommand c s).inbuf = s.inbuf := rfl
@[simp] theorem holdCommand_outbuf (c : Word) (s : State) : (holdCommand c s).outbuf = s.outbuf := rfl
@[simp] theorem holdCommand_entDraws (c : Word) (s : State) : (holdCommand c s).entDraws = s.entDraws := rfl
@[simp] theorem holdCommand_resets (c : Word) (s : State) : (holdCommand c s).resets = s.resets := rfl
@[simp] theorem holdCommand_idles (c : Word) (s : State) : (holdCommand c s).idles = s.idles := rfl
@[simp] theorem holdCommand_events (c : Word) (s : State) : (holdCommand c s).events = .engine :: s.events := rfl
@[simp] theorem holdCommand_responses (c : Word) (s : State) : (holdCommand c s).responses = s.responses := rfl

/-! ### applyReset (R138) -/

@[simp] theorem applyReset_cfg (s : State) : (applyReset s).cfg = s.cfg := rfl
@[simp] theorem applyReset_ctrl (s : State) : (applyReset s).ctrl = ⟨false, true, false⟩ := rfl
@[simp] theorem applyReset_done (s : State) : (applyReset s).done = false := rfl
@[simp] theorem applyReset_err (s : State) : (applyReset s).err = .ok := rfl
@[simp] theorem applyReset_schedValid (s : State) : (applyReset s).schedValid = false := rfl
@[simp] theorem applyReset_ivValid (s : State) : (applyReset s).ivValid = false := rfl
@[simp] theorem applyReset_seq (s : State) : (applyReset s).seq = .idle := rfl
@[simp] theorem applyReset_cmd (s : State) : (applyReset s).cmd = 0 := rfl
@[simp] theorem applyReset_msglen (s : State) : (applyReset s).msglen = 0 := rfl
@[simp] theorem applyReset_outlen (s : State) : (applyReset s).outlen = 0 := rfl
@[simp] theorem applyReset_xl (s : State) : (applyReset s).xl = 0 := rfl
@[simp] theorem applyReset_xr (s : State) : (applyReset s).xr = 0 := rfl
@[simp] theorem applyReset_ivreg (s : State) : (applyReset s).ivreg = 0 := rfl
@[simp] theorem applyReset_ivstage (s : State) : (applyReset s).ivstage = 0 := rfl
@[simp] theorem applyReset_keybuf (s : State) : (applyReset s).keybuf = Vector.replicate 56 0 := rfl
@[simp] theorem applyReset_dp (s : State) : (applyReset s).dp = ⟨resetTables (s.resets + 1), Config.idleL s.idles, Config.idleR s.idles⟩ := rfl
@[simp] theorem applyReset_cv (s : State) : (applyReset s).cv = Config.idleCv s.idles := rfl
@[simp] theorem applyReset_inbuf (s : State) : (applyReset s).inbuf = [] := rfl
@[simp] theorem applyReset_outbuf (s : State) : (applyReset s).outbuf = [] := rfl
@[simp] theorem applyReset_entDraws (s : State) : (applyReset s).entDraws = s.entDraws := rfl
@[simp] theorem applyReset_resets (s : State) : (applyReset s).resets = s.resets + 1 := rfl
@[simp] theorem applyReset_idles (s : State) : (applyReset s).idles = s.idles + 1 := rfl
@[simp] theorem applyReset_events (s : State) : (applyReset s).events = s.events := rfl
@[simp] theorem applyReset_responses (s : State) : (applyReset s).responses = s.responses := rfl

/-! ### The datapath (R19) -/

@[simp] theorem loadHalves_tables (h : Halves) (d : Datapath) : (loadHalves h d).tables = d.tables := rfl
@[simp] theorem loadHalves_l (h : Halves) (d : Datapath) : (loadHalves h d).l = h.1 := rfl
@[simp] theorem loadHalves_r (h : Halves) (d : Datapath) : (loadHalves h d).r = h.2 := rfl
@[simp] theorem halvesOf_loadHalves (h : Halves) (d : Datapath) : halvesOf (loadHalves h d) = h := rfl
@[simp] theorem encipherHalves_tables (d : Datapath) : (encipherHalves d).tables = d.tables := rfl
@[simp] theorem decipherHalves_tables (d : Datapath) : (decipherHalves d).tables = d.tables := rfl
@[simp] theorem halvesOf_encipherHalves (d : Datapath) :
    halvesOf (encipherHalves d) = encipher d.tables (halvesOf d) := rfl
@[simp] theorem halvesOf_decipherHalves (d : Datapath) :
    halvesOf (decipherHalves d) = decipher d.tables (halvesOf d) := rfl
@[simp] theorem encipherHalves_l (d : Datapath) : (encipherHalves d).l = (encipher d.tables (halvesOf d)).1 := rfl
@[simp] theorem encipherHalves_r (d : Datapath) : (encipherHalves d).r = (encipher d.tables (halvesOf d)).2 := rfl
@[simp] theorem decipherHalves_l (d : Datapath) : (decipherHalves d).l = (decipher d.tables (halvesOf d)).1 := rfl
@[simp] theorem decipherHalves_r (d : Datapath) : (decipherHalves d).r = (decipher d.tables (halvesOf d)).2 := rfl

/-! ### Reset (R138) -/

@[simp] theorem reset_cfg : State.reset.cfg = defaultConfig := rfl
@[simp] theorem reset_ctrl : State.reset.ctrl = ⟨false, true, false⟩ := rfl
@[simp] theorem reset_done : State.reset.done = false := rfl
@[simp] theorem reset_err : State.reset.err = .ok := rfl
@[simp] theorem reset_schedValid : State.reset.schedValid = false := rfl
@[simp] theorem reset_ivValid : State.reset.ivValid = false := rfl
@[simp] theorem reset_seq : State.reset.seq = .idle := rfl
@[simp] theorem reset_cmd : State.reset.cmd = 0 := rfl
@[simp] theorem reset_msglen : State.reset.msglen = 0 := rfl
@[simp] theorem reset_outlen : State.reset.outlen = 0 := rfl
@[simp] theorem reset_xl : State.reset.xl = 0 := rfl
@[simp] theorem reset_xr : State.reset.xr = 0 := rfl
@[simp] theorem reset_ivreg : State.reset.ivreg = 0 := rfl
@[simp] theorem reset_ivstage : State.reset.ivstage = 0 := rfl
@[simp] theorem reset_keybuf : State.reset.keybuf = Vector.replicate 56 0 := rfl
@[simp] theorem reset_inbuf : State.reset.inbuf = [] := rfl
@[simp] theorem reset_outbuf : State.reset.outbuf = [] := rfl
@[simp] theorem reset_events : State.reset.events = [] := rfl
@[simp] theorem reset_responses : State.reset.responses = [] := rfl

end Sys2Proof.Machine
end

