-- ==== Sys2Proof/Laws/Memory.lean ====
section
/-! SUPPORT. The byte RAM (spec R44, R139; log 4): a store is read back, leaves every other byte alone, and keeps the canonical
form. -/

namespace Sys2Proof.Machine

theorem find_store (m : Memory) (i j : Nat) (v : Byte) (h : m.wf) :
    (m.store i v).find j = if i = j then some v else m.find j := by
  induction m with
  | nil => simp [Memory.store, Memory.find]
  | cons c rest ih =>
    obtain ⟨a, b⟩ := c
    have hrest : Memory.wf rest := (List.pairwise_cons.1 h).2
    simp only [Memory.store]
    split
    · simp [Memory.find]
    · split
      · subst i
        by_cases hj : a = j <;> simp [Memory.find, hj]
      · by_cases hj : a = j
        · have : i ≠ j := by omega
          simp [Memory.find, hj, this]
        · simp [Memory.find, hj, ih hrest]

theorem mem_store {m : Memory} {i : Nat} {v : Byte} {c : Host.Cell} (h : c ∈ m.store i v) : c = (i, v) ∨ c ∈ m := by
  induction m with
  | nil => simpa [Memory.store] using h
  | cons d rest ih =>
    obtain ⟨a, b⟩ := d
    simp only [Memory.store] at h
    split at h
    · simpa using h
    · split at h
      · rcases List.mem_cons.1 h with h | h
        · exact .inl h
        · exact .inr (List.mem_cons_of_mem _ h)
      · rcases List.mem_cons.1 h with h | h
        · exact .inr (by simp [h])
        · exact (ih h).imp id (List.mem_cons_of_mem _)

/-- A store keeps the canonical form. -/
theorem store_wf (m : Memory) (i : Nat) (v : Byte) (h : m.wf) : (m.store i v).wf := by
  induction m with
  | nil => simp [Memory.store, Memory.wf]
  | cons c rest ih =>
    obtain ⟨a, b⟩ := c
    obtain ⟨hlt, hrest⟩ := List.pairwise_cons.1 h
    simp only [Memory.store]
    split
    · rename_i hi
      refine List.pairwise_cons.2 ⟨fun x hx => ?_, h⟩
      rcases List.mem_cons.1 hx with rfl | hx
      · exact hi
      · exact Nat.lt_trans hi (hlt x hx)
    · split
      · rename_i hi
        subst hi
        exact List.pairwise_cons.2 ⟨hlt, hrest⟩
      · refine List.pairwise_cons.2 ⟨fun x hx => ?_, ih hrest⟩
        rcases mem_store hx with rfl | hx
        · show a < i
          omega
        · exact hlt x hx

theorem store_within {m : Memory} {size i : Nat} {v : Byte} (h : m.wf ∧ ∀ c ∈ m, c.1 < size) (hi : i < size) :
    (m.store i v).wf ∧ ∀ c ∈ m.store i v, c.1 < size := by
  refine ⟨store_wf m i v h.1, fun c hc => ?_⟩
  rcases mem_store hc with rfl | hc
  · exact hi
  · exact h.2 c hc

/-- Storing a byte string keeps the canonical form. -/
theorem storeBytes_wf (bs : List Byte) : ∀ (m : Memory) (i : Nat), m.wf → (m.storeBytes i bs).wf := by
  induction bs with
  | nil => exact fun m i h => h
  | cons v rest ih => exact fun m i h => ih _ _ (store_wf m i v h)

theorem storeBytes_within {size : Nat} (bs : List Byte) : ∀ (m : Memory) (i : Nat), (m.wf ∧ ∀ c ∈ m, c.1 < size) →
    i + bs.length ≤ size → ((m.storeBytes i bs).wf ∧ ∀ c ∈ m.storeBytes i bs, c.1 < size) := by
  induction bs with
  | nil => exact fun m i h _ => h
  | cons v rest ih =>
    intro m i h hi
    simp only [List.length_cons] at hi
    exact ih _ _ (store_within h (by omega)) (by omega)

/-- What a byte string stored at `i` leaves at `j`: its own byte inside, the old byte outside. -/
theorem find_storeBytes (bs : List Byte) : ∀ (m : Memory) (i j : Nat), m.wf →
    (m.storeBytes i bs).find j = if i ≤ j ∧ j < i + bs.length then bs[j - i]? else m.find j := by
  induction bs with
  | nil =>
    intro m i j _
    simp [Memory.storeBytes]
  | cons v rest ih =>
    intro m i j h
    simp only [Memory.storeBytes, ih _ _ _ (store_wf m i v h), find_store m i j v h, List.length_cons]
    by_cases hij : i = j
    · subst hij
      have h2 : i ≤ i ∧ i < i + (rest.length + 1) := by omega
      simp [h2]
    · by_cases hin : i + 1 ≤ j ∧ j < i + 1 + rest.length
      · have h2 : i ≤ j ∧ j < i + (rest.length + 1) := by omega
        have h3 : j - i = j - (i + 1) + 1 := by omega
        simp [hin, h2, h3]
      · have h2 : ¬(i ≤ j ∧ j < i + (rest.length + 1)) := by omega
        rw [if_neg hij, if_neg hin, if_neg h2]

end Sys2Proof.Machine
end

