-- ==== Sys2Proof/Laws/Loops.lean ====
section
/-! SUPPORT. Counted loops (spec R11): the induction is packaged once, and later proofs cite it. -/

namespace Sys2Proof.Machine

@[simp] theorem forUpTo_zero {α : Type} (body : Nat → α → α) (a : α) : forUpTo 0 body a = a := rfl

theorem forUpTo_succ {α : Type} (n : Nat) (body : Nat → α → α) (a : α) :
    forUpTo (n + 1) body a = body n (forUpTo n body a) := rfl

/-- A property that holds at the start and that iteration `i < n` carries from `i` to `i + 1` holds at the end. -/
theorem forUpTo_invariant {α : Type} {n : Nat} {body : Nat → α → α} {a : α} (P : Nat → α → Prop) (h0 : P 0 a)
    (hstep : ∀ i x, i < n → P i x → P (i + 1) (body i x)) : P n (forUpTo n body a) := by
  induction n with
  | zero => exact h0
  | succ n ih => exact hstep n _ (by omega) (ih fun i x hi hx => hstep i x (by omega) hx)

/-- Loops whose bodies agree on the indices they run are equal. -/
theorem forUpTo_congr {α : Type} {n : Nat} {f g : Nat → α → α} (a : α) (h : ∀ i x, i < n → f i x = g i x) :
    forUpTo n f a = forUpTo n g a := by
  induction n with
  | zero => rfl
  | succ n ih =>
    simp only [forUpTo_succ]
    rw [ih fun i x hi => h i x (by omega), h n _ (by omega)]

/-- A quantity that no iteration changes is unchanged at the end. -/
theorem forUpTo_keeps {α β : Type} {n : Nat} {body : Nat → α → α} (a : α) (q : α → β)
    (h : ∀ i x, i < n → q (body i x) = q x) : q (forUpTo n body a) = q a :=
  forUpTo_invariant (P := fun _ x => q x = q a) rfl fun i x hi hx => (h i x hi).trans hx

end Sys2Proof.Machine
end

