-- ==== Sys2Proof/Laws/Messages.lean ====
section
/-! SUPPORT. What the loops of the message commands do (spec R97, R100, R102, R103, R104), said once: the frame of a loop, and
the bytes it leaves in OUTBUF. -/

namespace Sys2Proof.Machine

@[simp] theorem blockBytes_length (x : Block) : (blockBytes x).length = 8 := rfl

theorem blockBytes_get (x : Block) (i : Nat) (h : i < 8) : (blockBytes x)[i]? = some (blockByte x i) := by
  interval_cases i <;> rfl

/-! ### Blocks stored one after another -/

/-- Blocks `out 0, ..., out (n-1)` stored at 0, 8, 16, .... -/
def storeBlocks (out : Nat → Block) (n : Nat) (m : Memory) : Memory :=
  forUpTo n (fun b m => m.storeBytes (8 * b) (blockBytes (out b))) m

theorem storeBlocks_succ (out : Nat → Block) (n : Nat) (m : Memory) :
    storeBlocks out (n + 1) m = (storeBlocks out n m).storeBytes (8 * n) (blockBytes (out n)) := rfl

theorem storeBlocks_wf (out : Nat → Block) (n : Nat) (m : Memory) (h : m.wf) : (storeBlocks out n m).wf :=
  forUpTo_invariant (P := fun _ m => Memory.wf m) h fun _ _ _ hm => storeBytes_wf _ _ _ hm

theorem storeBlocks_within {size : Nat} (out : Nat → Block) (n : Nat) (m : Memory) (h : m.within size)
    (hn : 8 * n ≤ size) : (storeBlocks out n m).within size :=
  forUpTo_invariant (P := fun _ m => Memory.within m size) h fun i _ hi hm =>
    storeBytes_within _ _ _ hm (by simp only [blockBytes_length]; omega)

/-- Byte `i` after `n` blocks: byte `i % 8` of block `i / 8` below `8n`, the old byte from there on. -/
theorem find_storeBlocks (out : Nat → Block) (n i : Nat) (m : Memory) (h : m.wf) :
    (storeBlocks out n m).find i = if i < 8 * n then some (blockByte (out (i / 8)) (i % 8)) else m.find i := by
  induction n with
  | zero => simp [storeBlocks]
  | succ n ih =>
    rw [storeBlocks_succ, find_storeBytes _ _ _ _ (storeBlocks_wf out n m h), ih, blockBytes_length]
    by_cases hin : 8 * n ≤ i ∧ i < 8 * n + 8
    · have hd : i / 8 = n := by omega
      have hr : i % 8 = i - 8 * n := by omega
      rw [if_pos hin, if_pos (by omega), blockBytes_get _ _ (by omega), hd, hr]
    · rw [if_neg hin]
      by_cases hlt : i < 8 * n
      · rw [if_pos hlt, if_pos (by omega)]
      · rw [if_neg hlt, if_neg (by omega)]

/-! ### The message is the same throughout a command: no command writes INBUF or MSGLEN (R149) -/

theorem messageByte_congr {s t : State} (h1 : t.msglen = s.msglen) (h2 : t.inbuf = s.inbuf) (h3 : t.resets = s.resets) :
    t.messageByte = s.messageByte := by
  funext i
  simp [State.messageByte, State.inbufByte, h1, h2, h3]

theorem messageBlock_congr {s t : State} (h1 : t.msglen = s.msglen) (h2 : t.inbuf = s.inbuf) (h3 : t.resets = s.resets) :
    t.messageBlock = s.messageBlock := by
  funext b
  simp [State.messageBlock, messageByte_congr h1 h2 h3]

/-- The frame of a message loop after `n` blocks: from `s`, only L, R, CV and OUTBUF moved, the tables stand, and OUTBUF has
the blocks `out 0, ..., out (n-1)`. -/
def LoopedFrom (s : State) (out : Nat → Block) (n : Nat) (t : State) : Prop :=
  t = { s with dp := ⟨s.dp.tables, t.dp.l, t.dp.r⟩, cv := t.cv, outbuf := storeBlocks out n s.outbuf }

theorem LoopedFrom.start (s : State) (out : Nat → Block) : LoopedFrom s out 0 s := rfl

/-- One more block: the body's effect on a state that `LoopedFrom` describes. -/
theorem LoopedFrom.next {s t u : State} {out : Nat → Block} {n : Nat} (h : LoopedFrom s out n t)
    (hu : u = { t with dp := ⟨t.dp.tables, u.dp.l, u.dp.r⟩, cv := u.cv,
                       outbuf := t.outbuf.storeBytes (8 * n) (blockBytes (out n)) }) : LoopedFrom s out (n + 1) u := by
  unfold LoopedFrom at *
  rw [hu, h]
  rfl

theorem LoopedFrom.tables {s t : State} {out : Nat → Block} {n : Nat} (h : LoopedFrom s out n t) :
    t.dp.tables = s.dp.tables := by rw [h]

theorem LoopedFrom.ctrl {s t : State} {out : Nat → Block} {n : Nat} (h : LoopedFrom s out n t) : t.ctrl = s.ctrl := by
  rw [h]

theorem LoopedFrom.messageBlock {s t : State} {out : Nat → Block} {n : Nat} (h : LoopedFrom s out n t) :
    t.messageBlock = s.messageBlock := messageBlock_congr (by rw [h]) (by rw [h]) (by rw [h])

/-! ### The four loops -/

/-- ECB_ENC's loop: block `b` is enciphered on its own (R100). -/
theorem ecbEnc_loop (s : State) (n : Nat) :
    LoopedFrom s (fun b => encipherBlock s.dp.tables s.ctrl.wordOrder (s.messageBlock b)) n
      (forUpTo n (ecbBlock encipherHalves) s) := by
  refine forUpTo_invariant (P := LoopedFrom s _) (.start s _) fun i t _ ht => ht.next ?_
  simp only [← ht.tables, ← ht.ctrl, ← ht.messageBlock]
  rfl

/-- ECB_DEC's loop: block `b` is deciphered on its own (R102). -/
theorem ecbDec_loop (s : State) (n : Nat) :
    LoopedFrom s (fun b => decipherBlock s.dp.tables s.ctrl.wordOrder (s.messageBlock b)) n
      (forUpTo n (ecbBlock decipherHalves) s) := by
  refine forUpTo_invariant (P := LoopedFrom s _) (.start s _) fun i t _ ht => ht.next ?_
  simp only [← ht.tables, ← ht.ctrl, ← ht.messageBlock]
  rfl

/-- The chaining value before block `b` of a CBC encryption: the IV, then each emitted block (R103). -/
def chainValue (E : Block → Block) (M : Nat → Block) (iv : Block) : Nat → Block
  | 0 => iv
  | b + 1 => E (M b ^^^ chainValue E M iv b)

/-- CBC_ENC's loop from chaining value CV: block `b` emitted is the next chaining value (R103). -/
theorem cbcEnc_loop (s : State) (n : Nat) :
    let chain := chainValue (encipherBlock s.dp.tables s.ctrl.wordOrder) s.messageBlock s.cv
    LoopedFrom s (fun b => chain (b + 1)) n (forUpTo n cbcEncBlock s) ∧ (forUpTo n cbcEncBlock s).cv = chain n := by
  intro chain
  refine forUpTo_invariant (P := fun n t => LoopedFrom s _ n t ∧ t.cv = chain n) ⟨.start s _, rfl⟩ fun i t _ ht => ?_
  obtain ⟨hl, hcv⟩ := ht
  refine ⟨hl.next ?_, ?_⟩ <;>
  · simp only [chain, chainValue, ← hl.tables, ← hl.ctrl, ← hl.messageBlock] at hcv ⊢
    rw [← hcv]
    rfl

/-- CBC_DEC's loop from chaining value CV: block `b` is deciphered and XORed with the ciphertext block before it (R104). -/
theorem cbcDec_loop (s : State) (n : Nat) :
    let prev := fun b => if b = 0 then s.cv else s.messageBlock (b - 1)
    LoopedFrom s (fun b => decipherBlock s.dp.tables s.ctrl.wordOrder (s.messageBlock b) ^^^ prev b) n
      (forUpTo n cbcDecBlock s) ∧ (forUpTo n cbcDecBlock s).cv = prev n := by
  intro prev
  refine forUpTo_invariant (P := fun n t => LoopedFrom s _ n t ∧ t.cv = prev n) ⟨.start s _, rfl⟩ fun i t _ ht => ?_
  obtain ⟨hl, hcv⟩ := ht
  refine ⟨hl.next ?_, ?_⟩
  · simp only [← hcv, ← hl.tables, ← hl.ctrl, ← hl.messageBlock]
    rfl
  · have hp : prev (i + 1) = s.messageBlock i := by simp [prev]
    rw [hp, ← hl.messageBlock]
    rfl

end Sys2Proof.Machine
end

