-- ==== Sys2Proof/Laws/Checks.lean ====
section
/-! SUPPORT. The checks a command makes before any write (spec R98, R124): exactly when each passes, and what each reports. -/

namespace Sys2Proof.Machine

theorem schedCheck_eq_none {s : State} : schedCheck s = none ↔ s.schedValid = true := by
  cases h : s.schedValid <;> simp [schedCheck, h]

theorem schedCheck_eq_some {s : State} {k : Completion} :
    schedCheck s = some k ↔ s.schedValid = false ∧ k = .noSchedule := by
  cases h : s.schedValid <;> simp [schedCheck, h, eq_comm]

theorem messageCheck_eq_none {s : State} :
    messageCheck s = none ↔ s.schedValid = true ∧ s.msglen.toNat ≤ s.cfg.msgMax := by
  cases h : s.schedValid <;> simp [messageCheck, h]

theorem messageCheck_eq_some {s : State} {k : Completion} : messageCheck s = some k ↔
    (s.schedValid = false ∧ k = .noSchedule) ∨
      (s.schedValid = true ∧ s.cfg.msgMax < s.msglen.toNat ∧ k = .lengthTooLarge) := by
  cases h : s.schedValid
  · simp [messageCheck, h, eq_comm]
  · by_cases hl : s.cfg.msgMax < s.msglen.toNat <;> simp [messageCheck, h, hl, eq_comm]

theorem cbcEncCheck_eq_none {s : State} : cbcEncCheck s = none ↔
    s.schedValid = true ∧ s.msglen.toNat ≤ s.cfg.msgMax ∧ (s.ivValid = true ∨ s.ctrl.autoIv = true) := by
  unfold cbcEncCheck
  cases h : messageCheck s with
  | none =>
    obtain ⟨h1, h2⟩ := messageCheck_eq_none.1 h
    cases hv : s.ivValid <;> cases ha : s.ctrl.autoIv <;> simp [h1, h2]
  | some k => rcases messageCheck_eq_some.1 h with ⟨h1, -⟩ | ⟨h1, h2, -⟩ <;> (simp [h1]; try omega)

theorem cbcDecCheck_eq_none {s : State} : cbcDecCheck s = none ↔
    s.schedValid = true ∧ s.msglen.toNat ≤ s.cfg.msgMax ∧ s.ivValid = true := by
  unfold cbcDecCheck
  cases h : messageCheck s with
  | none =>
    obtain ⟨h1, h2⟩ := messageCheck_eq_none.1 h
    cases hv : s.ivValid <;> simp [h1, h2]
  | some k => rcases messageCheck_eq_some.1 h with ⟨h1, -⟩ | ⟨h1, h2, -⟩ <;> (simp [h1]; try omega)

theorem cbcEncCheck_eq_some {s : State} {k : Completion} : cbcEncCheck s = some k ↔
    messageCheck s = some k ∨
      (messageCheck s = none ∧ (s.ivValid = false ∧ s.ctrl.autoIv = false) ∧ k = .ivNotSet) := by
  unfold cbcEncCheck
  cases h : messageCheck s with
  | some j => simp
  | none => split <;> simp_all [eq_comm (a := k)]

theorem cbcDecCheck_eq_some {s : State} {k : Completion} : cbcDecCheck s = some k ↔
    messageCheck s = some k ∨ (messageCheck s = none ∧ s.ivValid = false ∧ k = .ivNotSet) := by
  unfold cbcDecCheck
  cases h : messageCheck s with
  | some j => simp
  | none => split <;> simp_all [eq_comm (a := k)]

/-- No check reports success. -/
theorem check_ne_ok {s : State} {k : Completion} (h : schedCheck s = some k ∨ messageCheck s = some k ∨
    cbcEncCheck s = some k ∨ cbcDecCheck s = some k) : k ≠ .ok := by
  have hm : ∀ {k}, messageCheck s = some k → k ≠ .ok := fun h => by
    rcases messageCheck_eq_some.1 h with ⟨-, rfl⟩ | ⟨-, -, rfl⟩ <;> decide
  rcases h with h | h | h | h
  · rw [(schedCheck_eq_some.1 h).2]
    decide
  · exact hm h
  · rcases cbcEncCheck_eq_some.1 h with h | ⟨-, -, rfl⟩
    · exact hm h
    · decide
  · rcases cbcDecCheck_eq_some.1 h with h | ⟨-, -, rfl⟩
    · exact hm h
    · decide

end Sys2Proof.Machine
end

