-- ==== Sys2Proof/Laws/Step.lean ====
section
/-! SUPPORT. Everything a command, a bus write and a step can do, said once; the later proofs split on these lemmas instead of
unfolding the step. -/

namespace Sys2Proof.Machine

/-- The frame every command keeps when it succeeds: it writes nothing but DONE, ERR, SEQ, OUTLEN, XL, XR, IVREG, IV_VALID,
SCHED_VALID, P, S, L, R, CV, OUTBUF and the two counters of free values (R149 for what it does not write). -/
def CommandFrame (s t : State) : Prop :=
  t = { s with
        done := true, err := .ok, seq := .idle, outlen := t.outlen, xl := t.xl, xr := t.xr, ivreg := t.ivreg,
        ivValid := t.ivValid, schedValid := t.schedValid, dp := t.dp, cv := t.cv, outbuf := t.outbuf,
        entDraws := t.entDraws, idles := t.idles }

/-- The success frame of a message loop: `u` is `s` with a cipher loop run and OUTLEN written. -/
theorem LoopedFrom.commandFrame {s t : State} {out : Nat → Block} {n : Nat} (h : LoopedFrom s out n t) (k : Nat) :
    CommandFrame s (completeOk (setOutlen k t)) := by
  unfold CommandFrame
  unfold LoopedFrom at h
  rw [h]
  rfl

/-! ### Each command as one equation per outcome: what it commits when its checks pass (R84, R92, R93, R100, R102, R103, R104,
R107, R108), and the error it raises when one fails -/

theorem exec_keysched_ok {n : Nat} (s : State) (h : 1 ≤ n ∧ n ≤ 56) : exec (.keysched n) s =
    .next (completeOk { s with dp := derive s.cfg.init s.keyByte n, schedValid := true }) := by
  simp only [exec, execKeysched]
  rw [if_neg (by omega)]

theorem exec_keysched_error {n : Nat} (s : State) (h : n = 0 ∨ 56 < n) :
    exec (.keysched n) s = .next (raiseError .invalidKeyLength s) := by
  simp only [exec, execKeysched]
  rw [if_pos h]

theorem exec_setIv_ok (s : State) :
    exec (.setIv 8) s = .next (completeOk { s with ivreg := s.ivstage, ivValid := true }) := rfl

theorem exec_setIv_error {n : Nat} (s : State) (h : n ≠ 8) :
    exec (.setIv n) s = .next (raiseError .invalidIvLength s) := by
  simp only [exec, execSetIv]
  rw [if_pos h]

theorem exec_genIv (s : State) : exec .genIv s = .next (completeOk (drawIv s)) := rfl

theorem exec_blkEnc_ok {s : State} (h : schedCheck s = none) :
    exec .blkEnc s = .next (completeOk (blockRaw encipherHalves s)) := by
  simp only [exec, execBlkEnc, h]

theorem exec_blkEnc_error {s : State} {k : Completion} (h : schedCheck s = some k) :
    exec .blkEnc s = .next (raiseError k s) := by
  simp only [exec, execBlkEnc, h]

theorem exec_blkDec_ok {s : State} (h : schedCheck s = none) :
    exec .blkDec s = .next (completeOk (blockRaw decipherHalves s)) := by
  simp only [exec, execBlkDec, h]

theorem exec_blkDec_error {s : State} {k : Completion} (h : schedCheck s = some k) :
    exec .blkDec s = .next (raiseError k s) := by
  simp only [exec, execBlkDec, h]

theorem exec_ecbEnc_ok {s : State} (h : messageCheck s = none) :
    exec .ecbEnc s = .next (completeOk (runMessage (ecbBlock encipherHalves) s)) := by
  simp only [exec, execEcbEnc, h]

theorem exec_ecbEnc_error {s : State} {k : Completion} (h : messageCheck s = some k) :
    exec .ecbEnc s = .next (raiseError k s) := by
  simp only [exec, execEcbEnc, h]

theorem exec_ecbDec_ok {s : State} (h : messageCheck s = none) :
    exec .ecbDec s = .next (completeOk (stripOutlen (runMessage (ecbBlock decipherHalves) s))) := by
  simp only [exec, execEcbDec, h]

theorem exec_ecbDec_error {s : State} {k : Completion} (h : messageCheck s = some k) :
    exec .ecbDec s = .next (raiseError k s) := by
  simp only [exec, execEcbDec, h]

theorem exec_cbcEnc_ok {s : State} (h : cbcEncCheck s = none) :
    exec .cbcEnc s = .next (completeOk (runMessage cbcEncBlock (loadCv (autoIv s)))) := by
  simp only [exec, execCbcEnc, h]

theorem exec_cbcEnc_error {s : State} {k : Completion} (h : cbcEncCheck s = some k) :
    exec .cbcEnc s = .next (raiseError k s) := by
  simp only [exec, execCbcEnc, h]

theorem exec_cbcDec_ok {s : State} (h : cbcDecCheck s = none) :
    exec .cbcDec s = .next (completeOk (runMessage cbcDecBlock (loadCv s))) := by
  simp only [exec, execCbcDec, h]

theorem exec_cbcDec_error {s : State} {k : Completion} (h : cbcDecCheck s = some k) :
    exec .cbcDec s = .next (raiseError k s) := by
  simp only [exec, execCbcDec, h]

/-- What a command can do: it fails with a code and changes only DONE, ERR and SEQ, or it succeeds within the frame. -/
theorem exec_cases (i : Instr) (s : State) :
    (∃ k, k ≠ .ok ∧ exec i s = .next (raiseError k s)) ∨ (∃ t, exec i s = .next t ∧ CommandFrame s t) := by
  cases i with
  | keysched n =>
    by_cases h : n = 0 ∨ 56 < n
    · exact .inl ⟨_, by decide, exec_keysched_error s h⟩
    · exact .inr ⟨_, exec_keysched_ok s (by omega), rfl⟩
  | setIv n =>
    by_cases h : n = 8
    · subst h
      exact .inr ⟨_, exec_setIv_ok s, rfl⟩
    · exact .inl ⟨_, by decide, exec_setIv_error s h⟩
  | genIv => exact .inr ⟨_, exec_genIv s, rfl⟩
  | blkEnc =>
    cases h : schedCheck s with
    | some k => exact .inl ⟨k, check_ne_ok (.inl h), exec_blkEnc_error h⟩
    | none => exact .inr ⟨_, exec_blkEnc_ok h, rfl⟩
  | blkDec =>
    cases h : schedCheck s with
    | some k => exact .inl ⟨k, check_ne_ok (.inl h), exec_blkDec_error h⟩
    | none => exact .inr ⟨_, exec_blkDec_ok h, rfl⟩
  | ecbEnc =>
    cases h : messageCheck s with
    | some k => exact .inl ⟨k, check_ne_ok (.inr (.inl h)), exec_ecbEnc_error h⟩
    | none => exact .inr ⟨_, exec_ecbEnc_ok h, (ecbEnc_loop s _).commandFrame _⟩
  | ecbDec =>
    cases h : messageCheck s with
    | some k => exact .inl ⟨k, check_ne_ok (.inr (.inl h)), exec_ecbDec_error h⟩
    | none => exact .inr ⟨_, exec_ecbDec_ok h, (ecbDec_loop s _).commandFrame _⟩
  | cbcEnc =>
    cases h : cbcEncCheck s with
    | some k => exact .inl ⟨k, check_ne_ok (.inr (.inr (.inl h))), exec_cbcEnc_error h⟩
    | none =>
      refine .inr ⟨_, exec_cbcEnc_ok h, ?_⟩
      have hf := (cbcEnc_loop (loadCv (autoIv s)) (loadCv (autoIv s)).blockCount).1.commandFrame
        (ceil8 (loadCv (autoIv s)).msglen.toNat)
      unfold CommandFrame at hf ⊢
      simp only [runMessage]
      rw [hf]
      unfold autoIv
      split <;> rfl
  | cbcDec =>
    cases h : cbcDecCheck s with
    | some k => exact .inl ⟨k, check_ne_ok (.inr (.inr (.inr h))), exec_cbcDec_error h⟩
    | none =>
      refine .inr ⟨_, exec_cbcDec_ok h, ?_⟩
      have hf := (cbcDec_loop (loadCv s) (loadCv s).blockCount).1.commandFrame (ceil8 (loadCv s).msglen.toNat)
      unfold CommandFrame at hf ⊢
      simp only [runMessage]
      rw [hf]
      rfl

/-- What a write that returns `ok` can do (R29, R57): the engine was idle, and one of the writable locations changed. -/
theorem busWrite_cases {off : BitVec 16} {data : Word} {s t : State} (h : busWrite off data s = some t) :
    s.isBusy = false ∧ ∃ loc, locate s.cfg.msgMax off = some loc ∧ writeLocation data s loc = some t := by
  unfold busWrite at h
  split at h
  · cases h
  · rename_i hb
    obtain ⟨loc, h1, h2⟩ := Option.bind_eq_some_iff.1 h
    exact ⟨by simpa using hb, loc, h1, h2⟩

/-- What a transaction can do: it is answered, and a write that returns `ok` has its effect first. -/
theorem serve_cases (tr : Transaction) (s : State) :
    (∃ off, tr = .read off ∧ serve tr s = respond (busRead off s) s) ∨
    (∃ off data u, tr = .write off data ∧ busWrite off data s = some u ∧ serve tr s = respond .ok u) ∨
    (∃ off data, tr = .write off data ∧ busWrite off data s = none ∧ serve tr s = respond .busError s) := by
  cases tr with
  | read off => exact .inl ⟨off, rfl, rfl⟩
  | write off data =>
    cases h : busWrite off data s with
    | some u => exact .inr (.inl ⟨off, data, u, rfl, h, by simp [serve, h]⟩)
    | none => exact .inr (.inr ⟨off, data, rfl, h, by simp [serve, h]⟩)

/-- The engine has the turn: no event is pending, or the next one is the engine's. -/
def State.engineTurn (s : State) : Prop := s.events = [] ∨ s.events.head? = some .engine

/-- Everything a step can do. -/
theorem step_cases (s : State) :
    (s.engineTurn ∧ s.seq = .idle ∧ step s = .next (popEvent s)) ∨
    (∃ c i, s.engineTurn ∧ s.seq = .busy c ∧ decode c = .instr i ∧ step s = exec i (popEvent s)) ∨
    (∃ c w, s.engineTurn ∧ s.seq = .busy c ∧ decode c = .illegal w ∧
      step s = .next (raiseError .illegalCommand (popEvent s))) ∨
    (∃ tr, s.events.head? = some (.bus tr) ∧ step s = .next (serve tr (popEvent s))) ∨
    (s.events.head? = some .reset ∧ step s = .next (applyReset (popEvent s))) := by
  have hpop : s.events = [] → popEvent s = s := fun h => by
    unfold popEvent
    rw [h]
    exact congrArg (fun e => { s with events := e }) h.symm
  have hturn : s.engineTurn → step s = sequencerTurn (popEvent s) := by
    rintro (h | h)
    · rw [hpop h]
      simp [step, nextMove, h]
    · obtain ⟨rest, hr⟩ := List.head?_eq_some_iff.1 h
      simp [step, nextMove, hr]
  have hseq : s.engineTurn → (s.engineTurn ∧ s.seq = .idle ∧ step s = .next (popEvent s)) ∨
      (∃ c i, s.engineTurn ∧ s.seq = .busy c ∧ decode c = .instr i ∧ step s = exec i (popEvent s)) ∨
      (∃ c w, s.engineTurn ∧ s.seq = .busy c ∧ decode c = .illegal w ∧
        step s = .next (raiseError .illegalCommand (popEvent s))) := fun ht => by
    have hst := hturn ht
    unfold sequencerTurn at hst
    rw [popEvent_seq] at hst
    cases hs : s.seq with
    | idle => exact .inl ⟨ht, rfl, by simpa [hs] using hst⟩
    | busy c =>
      cases hd : decode c with
      | instr i => exact .inr (.inl ⟨c, i, ht, rfl, hd, by simpa [hs, runCommand, hd] using hst⟩)
      | illegal w => exact .inr (.inr ⟨c, w, ht, rfl, hd, by simpa [hs, runCommand, hd] using hst⟩)
  cases he : s.events with
  | nil => rcases hseq (.inl he) with h | h | h <;> simp_all
  | cons e rest =>
    cases e with
    | engine => rcases hseq (.inr (by simp [he])) with h | h | h <;> simp_all
    | bus tr => exact .inr (.inr (.inr (.inl ⟨tr, rfl, by simp [step, nextMove, he]⟩)))
    | reset => exact .inr (.inr (.inr (.inr ⟨rfl, by simp [step, nextMove, he]⟩)))

end Sys2Proof.Machine
end

