-- ==== Sys2Proof/Laws/Operands.lean ====
section
/-! SUPPORT. The operand forms by number (spec R10, R53, R67, R94): what concatenating and extracting bytes does to the value, so
that later proofs are arithmetic on `toNat`. -/

namespace Sys2Proof

theorem toNat_append_eq {n m : Nat} (x : BitVec n) (y : BitVec m) : (x ++ y).toNat = x.toNat * 2 ^ m + y.toNat := by
  rw [BitVec.toNat_append, ← Nat.shiftLeft_add_eq_or_of_lt y.isLt, Nat.shiftLeft_eq]

theorem toNat_extract_eq {n : Nat} (x : BitVec n) (start len : Nat) :
    (x.extractLsb' start len).toNat = x.toNat / 2 ^ start % 2 ^ len := by
  rw [BitVec.extractLsb'_toNat, Nat.shiftRight_eq_div_pow]

/-! ### The command word (R67) -/

theorem toNat_commandWord (a o : Byte) : (commandWord a o).toNat = a.toNat * 2 ^ 8 + o.toNat := by
  show ((0#16 ++ a ++ o : BitVec (16 + 8 + 8))).toNat = _
  simp only [toNat_append_eq, BitVec.toNat_ofNat]
  omega

theorem toNat_opcodeField (c : Word) : (opcodeField c).toNat = c.toNat % 2 ^ 8 := by
  simp only [opcodeField, toNat_extract_eq]
  omega

theorem toNat_argField (c : Word) : (argField c).toNat = c.toNat / 2 ^ 8 % 2 ^ 8 := toNat_extract_eq c 8 8

theorem toNat_rsvdField (c : Word) : (rsvdField c).toNat = c.toNat / 2 ^ 16 := by
  have := c.isLt
  simp only [rsvdField, toNat_extract_eq]
  omega

@[simp] theorem opcodeField_commandWord (a o : Byte) : opcodeField (commandWord a o) = o := by
  have := o.isLt
  apply BitVec.eq_of_toNat_eq
  rw [toNat_opcodeField, toNat_commandWord]
  omega

@[simp] theorem argField_commandWord (a o : Byte) : argField (commandWord a o) = a := by
  have := o.isLt
  have := a.isLt
  apply BitVec.eq_of_toNat_eq
  rw [toNat_argField, toNat_commandWord]
  omega

@[simp] theorem rsvdField_commandWord (a o : Byte) : rsvdField (commandWord a o) = 0#16 := by
  have := o.isLt
  have := a.isLt
  apply BitVec.eq_of_toNat_eq
  rw [toNat_rsvdField, toNat_commandWord]
  simp
  omega

/-- A word with RSVD = 0 is put together from its two fields. -/
theorem commandWord_of_fields {c : Word} (h : rsvdField c = 0#16) : commandWord (argField c) (opcodeField c) = c := by
  have hr := congrArg BitVec.toNat h
  rw [toNat_rsvdField] at hr
  apply BitVec.eq_of_toNat_eq
  rw [toNat_commandWord, toNat_argField, toNat_opcodeField]
  simp at hr
  omega

namespace Machine

/-! ### Bytes and words (R10) -/

theorem toNat_be32 (b0 b1 b2 b3 : Byte) :
    (be32 b0 b1 b2 b3).toNat = b0.toNat * 2 ^ 24 + b1.toNat * 2 ^ 16 + b2.toNat * 2 ^ 8 + b3.toNat := by
  show ((b0 ++ b1 ++ b2 ++ b3 : BitVec (8 + 8 + 8 + 8))).toNat = _
  simp only [toNat_append_eq]
  omega

theorem toNat_le32 (b0 b1 b2 b3 : Byte) :
    (le32 b0 b1 b2 b3).toNat = b3.toNat * 2 ^ 24 + b2.toNat * 2 ^ 16 + b1.toNat * 2 ^ 8 + b0.toNat :=
  toNat_be32 b3 b2 b1 b0

theorem toNat_wordByte (w : Word) (i : Nat) : (wordByte w i).toNat = w.toNat / 2 ^ (24 - 8 * i) % 2 ^ 8 :=
  toNat_extract_eq w _ 8

/-- `be32` of the bytes of a word is the word. -/
@[simp] theorem be32_wordByte (w : Word) : be32 (wordByte w 0) (wordByte w 1) (wordByte w 2) (wordByte w 3) = w := by
  have := w.isLt
  apply BitVec.eq_of_toNat_eq
  simp only [toNat_be32, toNat_wordByte]
  omega

/-! ### Blocks (R12) -/

theorem toNat_blockAt (A : Nat → Byte) (i : Nat) :
    (blockAt A i).toNat = (A i).toNat * 2 ^ 56 + (A (i + 1)).toNat * 2 ^ 48 + (A (i + 2)).toNat * 2 ^ 40 +
      (A (i + 3)).toNat * 2 ^ 32 + (A (i + 4)).toNat * 2 ^ 24 + (A (i + 5)).toNat * 2 ^ 16 + (A (i + 6)).toNat * 2 ^ 8 +
      (A (i + 7)).toNat := by
  show ((A i ++ A (i + 1) ++ A (i + 2) ++ A (i + 3) ++ A (i + 4) ++ A (i + 5) ++ A (i + 6) ++ A (i + 7) :
    BitVec (8 + 8 + 8 + 8 + 8 + 8 + 8 + 8))).toNat = _
  simp only [toNat_append_eq]
  omega

theorem toNat_blockByte (b : Block) (i : Nat) : (blockByte b i).toNat = b.toNat / 2 ^ (56 - 8 * i) % 2 ^ 8 :=
  toNat_extract_eq b _ 8

/-- The bytes of the block read at `i` are the bytes read. -/
theorem blockByte_blockAt (A : Nat → Byte) (i j : Nat) (h : j < 8) : blockByte (blockAt A i) j = A (i + j) := by
  have byte_lt : ∀ k, (A (i + k)).toNat < 2 ^ 8 := fun k => (A (i + k)).isLt
  have := byte_lt 0
  have := byte_lt 1
  have := byte_lt 2
  have := byte_lt 3
  have := byte_lt 4
  have := byte_lt 5
  have := byte_lt 6
  have := byte_lt 7
  apply BitVec.eq_of_toNat_eq
  rw [toNat_blockByte, toNat_blockAt]
  interval_cases j <;> norm_num at * <;> omega

/-- Blocks with equal bytes are equal: bit `i` of a block is bit `i % 8` of its byte `7 - i / 8`. -/
theorem block_ext {a b : Block} (h : ∀ j, j < 8 → blockByte a j = blockByte b j) : a = b := by
  refine BitVec.eq_of_getLsbD_eq fun i hi => ?_
  have bit : ∀ x : Block, x.getLsbD i = (blockByte x (7 - i / 8)).getLsbD (i % 8) := fun x => by
    have hp : 56 - 8 * (7 - i / 8) + i % 8 = i := by omega
    simp [blockByte, hp, Nat.mod_lt]
  rw [bit, bit, h _ (by omega)]

/-- A block is read back from its bytes. -/
theorem blockAt_eq {A : Nat → Byte} {i : Nat} {b : Block} (h : ∀ j, j < 8 → A (i + j) = blockByte b j) :
    blockAt A i = b :=
  block_ext fun j hj => (blockByte_blockAt A i j hj).trans (h j hj)

theorem toNat_appendWords (a b : Word) : (a ++ b : Block).toNat = a.toNat * 2 ^ 32 + b.toNat :=
  toNat_append_eq a b

@[simp] theorem blockHi_append (a b : Word) : blockHi (a ++ b) = a := by
  have := b.isLt
  have := a.isLt
  apply BitVec.eq_of_toNat_eq
  simp only [blockHi, toNat_extract_eq, toNat_appendWords]
  omega

@[simp] theorem blockLo_append (a b : Word) : blockLo (a ++ b) = b := by
  have := b.isLt
  apply BitVec.eq_of_toNat_eq
  simp only [blockLo, toNat_extract_eq, toNat_appendWords]
  omega

/-! ### Words and blocks in bytes, and exclusive-or byte by byte (R94 to R96) -/

/-- The bytes of a big-endian word. -/
theorem wordByte_be32 (b0 b1 b2 b3 : Byte) : wordByte (be32 b0 b1 b2 b3) 0 = b0 ∧ wordByte (be32 b0 b1 b2 b3) 1 = b1 ∧
    wordByte (be32 b0 b1 b2 b3) 2 = b2 ∧ wordByte (be32 b0 b1 b2 b3) 3 = b3 := by
  have := b0.isLt
  have := b1.isLt
  have := b2.isLt
  have := b3.isLt
  refine ⟨?_, ?_, ?_, ?_⟩ <;>
  · apply BitVec.eq_of_toNat_eq
    rw [toNat_wordByte, toNat_be32]
    norm_num
    omega

/-- Reversing the bytes of a word read little-endian gives the word read big-endian. -/
theorem swapBytes_le32 (b0 b1 b2 b3 : Byte) : swapBytes (le32 b0 b1 b2 b3) = be32 b0 b1 b2 b3 := by
  obtain ⟨h0, h1, h2, h3⟩ := wordByte_be32 b3 b2 b1 b0
  have h : le32 b0 b1 b2 b3 = be32 b3 b2 b1 b0 := rfl
  rw [swapBytes, h, h0, h1, h2, h3]
  rfl

theorem swapBytes_swapBytes (w : Word) : le32 (wordByte (swapBytes w) 0) (wordByte (swapBytes w) 1) (wordByte (swapBytes w) 2)
    (wordByte (swapBytes w) 3) = w := by
  show swapBytes (le32 _ _ _ _) = w
  rw [swapBytes_le32, be32_wordByte]

/-- The bytes of a block made of two words. -/
theorem blockByte_append_hi (a b : Word) (i : Nat) (h : i < 4) : blockByte (a ++ b) i = wordByte a i := by
  have := b.isLt
  have := a.isLt
  apply BitVec.eq_of_toNat_eq
  rw [toNat_blockByte, toNat_wordByte, toNat_appendWords]
  interval_cases i <;> norm_num <;> omega

theorem blockByte_append_lo (a b : Word) (i : Nat) (h : i < 4) : blockByte (a ++ b) (4 + i) = wordByte b i := by
  have := b.isLt
  have := a.isLt
  apply BitVec.eq_of_toNat_eq
  rw [toNat_blockByte, toNat_wordByte, toNat_appendWords]
  interval_cases i <;> norm_num <;> omega

/-- A block is put together from its bytes. -/
theorem be32_blockByte (b : Block) : be32 (blockByte b 0) (blockByte b 1) (blockByte b 2) (blockByte b 3) ++
    be32 (blockByte b 4) (blockByte b 5) (blockByte b 6) (blockByte b 7) = b := by
  have := b.isLt
  apply BitVec.eq_of_toNat_eq
  simp only [toNat_appendWords, toNat_be32, toNat_blockByte]
  norm_num
  omega

theorem blockByte_xor (a b : Block) (i : Nat) : blockByte (a ^^^ b) i = blockByte a i ^^^ blockByte b i := by
  ext j hj
  simp [blockByte]

theorem be32_xor (a b c d a' b' c' d' : Byte) :
    be32 (a ^^^ a') (b ^^^ b') (c ^^^ c') (d ^^^ d') = be32 a b c d ^^^ be32 a' b' c' d' := by
  show (((a ^^^ a') ++ (b ^^^ b') ++ (c ^^^ c') ++ (d ^^^ d') : BitVec (8 + 8 + 8 + 8))) =
    (a ++ b ++ c ++ d : BitVec (8 + 8 + 8 + 8)) ^^^ (a' ++ b' ++ c' ++ d' : BitVec (8 + 8 + 8 + 8))
  simp only [BitVec.xor_append]

/-! ### What a message loop leaves in OUTBUF, byte by byte and block by block (R60, R99) -/

/-- After a loop of `n` blocks from `s`, byte `a` of OUTBUF is byte `a % 8` of block `a / 8` below `8n`, the old one above. -/
theorem LoopedFrom.outbufByte {s t : State} {out : Nat → Block} {n : Nat} (h : LoopedFrom s out n t) (hw : s.outbuf.wf)
    (a : Nat) : t.outbufByte a = if a < 8 * n then blockByte (out (a / 8)) (a % 8) else s.outbufByte a := by
  unfold LoopedFrom at h
  rw [h]
  simp only [State.outbufByte, find_storeBlocks _ _ _ _ hw]
  split <;> rfl

/-- After a loop of `n` blocks from `s`, block `b < n` of OUTBUF is `out b`. -/
theorem LoopedFrom.outputBlock {s t : State} {out : Nat → Block} {n b : Nat} (h : LoopedFrom s out n t) (hw : s.outbuf.wf)
    (hb : b < n) : t.outputBlock b = out b := by
  refine blockAt_eq fun j hj => ?_
  have h1 : (8 * b + j) / 8 = b := by omega
  have h2 : (8 * b + j) % 8 = j := by omega
  rw [h.outbufByte hw, if_pos (by omega), h1, h2]

/-! ### The length of the padded message (R97, R98, R101) -/

theorem eight_mul_blockCount (s : State) : 8 * s.blockCount = s.paddedLength := by
  unfold State.blockCount State.paddedLength ceil8
  omega

theorem paddedLength_le {s : State} (hc : s.cfg.Legal) (h : s.msglen.toNat ≤ s.cfg.msgMax) :
    s.paddedLength ≤ s.cfg.msgMax := by
  obtain ⟨h1, h2, h3⟩ := hc
  unfold State.paddedLength ceil8
  omega

/-- OUTLEN holds the padded length: it fits 32 bits. -/
theorem toNat_paddedLength {s : State} (hc : s.cfg.Legal) (h : s.msglen.toNat ≤ s.cfg.msgMax) :
    (BitVec.ofNat 32 s.paddedLength).toNat = s.paddedLength := by
  have := paddedLength_le hc h
  obtain ⟨h1, h2, h3⟩ := hc
  rw [BitVec.toNat_ofNat, Nat.mod_eq_of_lt]
  omega

theorem strip_le (O : Nat → Byte) (N : Nat) : strip O N ≤ N := by
  induction N with
  | zero => simp [strip]
  | succ n ih =>
    unfold strip
    split <;> omega

theorem toNat_strip {s : State} (O : Nat → Byte) (hc : s.cfg.Legal) (h : s.msglen.toNat ≤ s.cfg.msgMax) :
    (BitVec.ofNat 32 (strip O s.paddedLength)).toNat = strip O s.paddedLength := by
  have := paddedLength_le hc h
  have := strip_le O s.paddedLength
  obtain ⟨h1, h2, h3⟩ := hc
  rw [BitVec.toNat_ofNat, Nat.mod_eq_of_lt]
  omega

/-! ### The start of a CBC encryption (R103, R109) -/

/-- CV and IVREG hold the IV kept or drawn. -/
theorem loadCv_autoIv (s : State) :
    loadCv (autoIv s) = { s with
      cv := if s.ivValid then s.ivreg else Config.entData s.entDraws
      ivreg := if s.ivValid then s.ivreg else Config.entData s.entDraws
      ivValid := true
      entDraws := if s.ivValid then s.entDraws else s.entDraws + 1 } := by
  cases hv : s.ivValid
  · have h : autoIv s = drawIv s := by simp [autoIv, hv]
    rw [h]
    rfl
  · have h : autoIv s = s := by simp [autoIv, hv]
    rw [h]
    simp only [if_true]
    rw [← hv]
    rfl

end Machine

end Sys2Proof
end

