-- ==== Sys2Proof/Laws/Bus.lean ====
section
/-! SUPPORT. The bus map (spec R26, R50): each location has one offset, so two offsets never share a location, and which offsets
are mapped, read-only, gated or readable while busy. -/

namespace Sys2Proof.Machine

/-- The offset of a location (R26). -/
def Location.offset : Location → Nat
  | .ctrl => 0x0000
  | .status => 0x0004
  | .cmd => 0x0008
  | .msglen => 0x000C
  | .outlen => 0x0010
  | .xl => 0x0014
  | .xr => 0x0018
  | .param => 0x001C
  | .iv0 => 0x0020
  | .iv1 => 0x0024
  | .ivstage0 => 0x0028
  | .ivstage1 => 0x002C
  | .key w => 0x0040 + 4 * w
  | .pwin i => 0x0100 + 4 * i
  | .swin k j => 0x1000 + 0x400 * k + 4 * j
  | .inbuf w => 0x4000 + 4 * w
  | .outbuf w => 0x8000 + 4 * w

/-- The locations of the map (R26, R50). -/
def Location.Exists (msgMax : Nat) : Location → Prop
  | .key w => w < 14
  | .pwin i => i < 18
  | .swin k j => k < 4 ∧ j < 256
  | .inbuf w => 4 * w < msgMax ∧ 4 * w < 0x4000
  | .outbuf w => 4 * w < msgMax
  | _ => True

theorem controlLocation_eq {w : Nat} {loc : Location} (h : controlLocation w = some loc) :
    4 * w = loc.offset ∧ w < 12 ∧ ∀ m, loc.Exists m := by
  unfold controlLocation at h
  split at h <;> first
    | (cases h; exact ⟨rfl, by omega, fun _ => trivial⟩)
    | cases h

theorem controlLocation_some {w : Nat} (h : w < 12) : ∃ loc, controlLocation w = some loc := by
  interval_cases w <;> exact ⟨_, rfl⟩

/-- A located offset is the offset of an existing location. -/
theorem locate_eq {m : Nat} {off : BitVec 16} {loc : Location} (h : locate m off = some loc) :
    off.toNat = loc.offset ∧ loc.Exists m := by
  have hlt := off.isLt
  unfold locate at h
  split at h
  · rename_i ha
    unfold mapOffset at h
    split at h
    · obtain ⟨h1, -, h2⟩ := controlLocation_eq h
      exact ⟨by omega, h2 m⟩
    · repeat' split at h
      all_goals first
        | (cases h; done)
        | (cases h
           simp only [Location.offset, Location.Exists]
           omega)
  · cases h

/-- Two offsets never share a location. -/
theorem locate_inj {m : Nat} {off off' : BitVec 16} {loc : Location} (h : locate m off = some loc)
    (h' : locate m off' = some loc) : off = off' :=
  BitVec.eq_of_toNat_eq ((locate_eq h).1.trans (locate_eq h').1.symm)

/-- An offset is located exactly when it is aligned and mapped (R50). -/
theorem locate_eq_none {m : Nat} {off : BitVec 16} :
    locate m off = none ↔ off.toNat % 4 ≠ 0 ∨ ¬ MappedOffset m off.toNat := by
  have hlt := off.isLt
  unfold locate MappedOffset
  split
  · rename_i ha
    unfold mapOffset
    split
    · obtain ⟨loc, h⟩ := controlLocation_some (w := off.toNat / 4) (by omega)
      rw [h]
      simp
      omega
    · repeat' split
      all_goals
        simp only [reduceCtorEq, false_iff, true_iff]
        omega
  · rename_i ha
    simp [ha]

/-- Which locations are gated, by offset (R42). -/
theorem gated_iff {m : Nat} {loc : Location} (h : loc.Exists m) : loc.gated = true ↔ WindowOffset loc.offset := by
  cases loc <;> simp only [Location.gated, Location.offset, WindowOffset, Location.Exists] at h ⊢ <;>
    simp only [Bool.false_eq_true, false_iff, true_iff] <;> omega

/-- Which locations can be read while busy, by offset (R59). -/
theorem readableWhileBusy_iff (loc : Location) :
    loc.readableWhileBusy = true ↔ BusyReadableOffset loc.offset := by
  cases loc <;> simp only [Location.readableWhileBusy, Location.offset, BusyReadableOffset] <;>
    simp only [Bool.false_eq_true, false_iff, true_iff] <;> first | omega | simp

/-- Which locations refuse a write while idle, by offset (R58). -/
theorem writeLocation_eq_none {m : Nat} {loc : Location} (h : loc.Exists m) (data : Word) (s : State) :
    writeLocation data s loc = none ↔ ReadOnlyOffset m loc.offset := by
  cases loc <;> simp only [writeLocation, Location.offset, ReadOnlyOffset, Location.Exists] at h ⊢ <;>
    simp only [reduceCtorEq, false_iff, true_iff] <;> first | omega | simp

/-- What a write to a location leaves unchanged, whatever it writes. -/
theorem writeLocation_frame {data : Word} {s t : State} {loc : Location} (h : writeLocation data s loc = some t) :
    t.dp = s.dp ∧ t.schedValid = s.schedValid ∧ t.ivValid = s.ivValid ∧ t.ivreg = s.ivreg ∧ t.outbuf = s.outbuf ∧
      t.outlen = s.outlen ∧ t.cfg = s.cfg ∧ t.cv = s.cv ∧ t.entDraws = s.entDraws ∧ t.resets = s.resets ∧
      t.idles = s.idles ∧ t.events = s.events ∧ t.responses = s.responses := by
  cases loc <;> simp only [writeLocation] at h <;> cases h <;> try exact ⟨rfl, rfl, rfl, rfl, rfl, rfl, rfl, rfl, rfl, rfl, rfl, rfl, rfl⟩
  unfold writeStatus
  split <;> exact ⟨rfl, rfl, rfl, rfl, rfl, rfl, rfl, rfl, rfl, rfl, rfl, rfl, rfl⟩

theorem isBusy_idle {s : State} (h : s.seq = .idle) : s.isBusy = false := by simp [State.isBusy, h]

theorem isBusy_busy {s : State} {c : Word} (h : s.seq = .busy c) : s.isBusy = true := by simp [State.isBusy, h]

theorem isBusy_iff {s : State} : s.isBusy = true ↔ ∃ c, s.seq = .busy c := by
  cases h : s.seq <;> simp [State.isBusy, h]

/-- A read of a located offset (R48, R49). -/
theorem busRead_eq {off : BitVec 16} {s : State} {loc : Location} (h : locate s.cfg.msgMax off = some loc) :
    busRead off s = if s.isBusy && !loc.readableWhileBusy then .busError
      else if loc.gated && !s.schedValid then .busError
      else .data (readLocation s loc) := by
  simp only [busRead, h]

/-- A write to a located offset while idle (R48, R49). -/
theorem busWrite_eq {off : BitVec 16} {data : Word} {s : State} {loc : Location} (hi : s.isBusy = false)
    (h : locate s.cfg.msgMax off = some loc) : busWrite off data s = writeLocation data s loc := by
  simp [busWrite, hi, h]

end Sys2Proof.Machine
end

