-- ==== Sys2Proof/Laws/KeySchedule.lean ====
section
/-! SUPPORT. The tables and the key schedule (spec R78 to R83): a table write is read back and leaves every other entry alone, and
the stages of steps 3 and 4 by name, each with its one-step equation, so that no proof unfolds the finished schedule. -/

namespace Sys2Proof.Machine

theorem subkey_setSubkey (t : Tables) {i j : Nat} (v : Word) (h : i < 18) :
    subkey (setSubkey i v t) j = if i = j then v else subkey t j := by
  by_cases hij : i = j
  · subst hij
    simp [subkey, setSubkey, h]
  · simp [subkey, setSubkey, hij]

@[simp] theorem sbox_setSubkey (t : Tables) (i k j : Nat) (v : Word) : sbox (setSubkey i v t) k j = sbox t k j := rfl

@[simp] theorem subkey_setSbox (t : Tables) (i k j : Nat) (v : Word) : subkey (setSbox k j v t) i = subkey t i := by
  unfold setSbox
  split <;> rfl

theorem sbox_setSbox (t : Tables) {k j k' j' : Nat} (v : Word) (hk : k < 4) (hj : j < 256) :
    sbox (setSbox k j v t) k' j' = if k = k' ∧ j = j' then v else sbox t k' j' := by
  have h : t.s[k]? = some t.s[k] := by simp [hk]
  simp only [setSbox, h, sbox, Vector.getElem?_setIfInBounds]
  by_cases hkk : k = k'
  · subst hkk
    by_cases hjj : j = j'
    · subst hjj
      simp [hk, hj]
    · simp [hk, hjj]
  · simp [hkk]

/-- Tables are equal when every P entry and the S-boxes are. -/
theorem tables_ext {t u : Tables} (hp : ∀ i, i < 18 → subkey t i = subkey u i) (hs : t.s = u.s) : t = u := by
  obtain ⟨p, s⟩ := t
  obtain ⟨q, r⟩ := u
  obtain rfl : s = r := hs
  have hpq : p = q := Vector.ext fun i hi => by simpa [subkey, hi] using hp i hi
  rw [hpq]

/-- A key word reads key bytes below `n` only. -/
theorem keyWord_congr {K K' : Nat → Byte} {n o : Nat} (hn : 1 ≤ n) (h : ∀ i, i < n → K i = K' i) :
    keyWord K n o = keyWord K' n o := by
  unfold keyWord
  rw [h _ (Nat.mod_lt _ hn), h _ (Nat.mod_lt _ hn), h _ (Nat.mod_lt _ hn), h _ (Nat.mod_lt _ hn)]

/-! ### The stages of steps 3 and 4 -/

/-- The datapath after `m` iterations of step 3 (R81). -/
def pStage (t : Tables) (m : Nat) : Datapath := forUpTo m fillP ⟨t, 0, 0⟩

/-- The datapath after boxes 0 to k-1 and `m` iterations for box `k` (R82). -/
def sStage (t : Tables) (k m : Nat) : Datapath :=
  forUpTo m (fillS k) (forUpTo k (fun k => forUpTo 128 (fillS k)) (pStage t 9))

theorem pStage_succ (t : Tables) (m : Nat) : pStage t (m + 1) = fillP m (pStage t m) := rfl

theorem sStage_succ (t : Tables) (k m : Nat) : sStage t k (m + 1) = fillS k m (sStage t k m) := rfl

theorem sStage_zero_zero (t : Tables) : sStage t 0 0 = pStage t 9 := by
  unfold sStage
  rw [forUpTo_zero, forUpTo_zero]

theorem sStage_next_box (t : Tables) (k : Nat) : sStage t (k + 1) 0 = sStage t k 128 := by
  unfold sStage
  rw [forUpTo_zero, forUpTo_succ]

theorem fillTables_eq_sStage (t : Tables) : fillTables t = sStage t 4 0 := by
  unfold fillTables sStage pStage
  rw [forUpTo_zero]

theorem fillP_tables (m : Nat) (d : Datapath) : (fillP m d).tables =
    setSubkey (2 * m + 1) (fillP m d).r (setSubkey (2 * m) (fillP m d).l d.tables) := rfl

theorem fillS_tables (k m : Nat) (d : Datapath) : (fillS k m d).tables =
    setSbox k (2 * m + 1) (fillS k m d).r (setSbox k (2 * m) (fillS k m d).l d.tables) := rfl

theorem halvesOf_fillP (m : Nat) (d : Datapath) : halvesOf (fillP m d) = encipher d.tables (halvesOf d) := rfl

theorem halvesOf_fillS (k m : Nat) (d : Datapath) : halvesOf (fillS k m d) = encipher d.tables (halvesOf d) := rfl

end Sys2Proof.Machine
end

