-- ==== Sys2Proof/Laws/Commands.lean ====
section
/-! SUPPORT. What each command does to one group of registers (spec R39, R40, R41, R99): the tables, the IV, the output. Each lemma
covers every command, with every outcome. -/

namespace Sys2Proof.Machine

/-- The completed state of a message loop is the start with OUTBUF and OUTLEN written. -/
theorem completeOk_runMessage {body : Nat → State → State} {out : Nat → Block} {s : State}
    (h : LoopedFrom s out s.blockCount (forUpTo s.blockCount body s)) : completeOk (runMessage body s) =
      completeOk { s with
        outlen := BitVec.ofNat 32 s.paddedLength, outbuf := storeBlocks out s.blockCount s.outbuf } := by
  unfold LoopedFrom at h
  simp only [runMessage]
  rw [h]
  rfl

/-- The same for ECB_DEC, with OUTLEN stripped. -/
theorem completeOk_stripOutlen {body : Nat → State → State} {out : Nat → Block} {s : State}
    (h : LoopedFrom s out s.blockCount (forUpTo s.blockCount body s)) : ∃ n, n ≤ s.paddedLength ∧
      completeOk (stripOutlen (runMessage body s)) = completeOk { s with
        outlen := BitVec.ofNat 32 n, outbuf := storeBlocks out s.blockCount s.outbuf } := by
  unfold LoopedFrom at h
  refine ⟨strip (forUpTo s.blockCount body s).outbufByte s.paddedLength, strip_le _ _, ?_⟩
  simp only [runMessage]
  rw [h]
  rfl

/-- What the automatic IV leaves: everything but IVREG, IV_VALID and the draw, and an IV is then held (R109). -/
theorem autoIv_frame (s : State) : autoIv s = { s with
    ivreg := (autoIv s).ivreg, ivValid := true, entDraws := (autoIv s).entDraws } := by
  cases hv : s.ivValid
  · simp only [autoIv, hv]
    rfl
  · have h : autoIv s = s := by simp [autoIv, hv]
    rw [h, ← hv]

/-- What a message command can do: fail, or write OUTBUF block by block, OUTLEN, and for CBC_ENC the IV. -/
theorem exec_message_cases {i : Instr} {s t : State} (hi : isMessage i = true) (h : exec i s = .next t) :
    (∃ k, k ≠ .ok ∧ t = raiseError k s) ∨
    ∃ u n out, (i ≠ .cbcEnc ∧ u = s ∨ i = .cbcEnc ∧ u = autoIv s) ∧ n ≤ s.paddedLength ∧ s.schedValid = true ∧
      s.msglen.toNat ≤ s.cfg.msgMax ∧
      t = completeOk { u with
        outlen := BitVec.ofNat 32 n, outbuf := storeBlocks out s.blockCount s.outbuf } := by
  cases i with
  | ecbEnc =>
    cases hc : messageCheck s with
    | some k =>
      rw [exec_ecbEnc_error hc] at h
      cases h
      exact .inl ⟨k, check_ne_ok (.inr (.inl hc)), rfl⟩
    | none =>
      obtain ⟨h1, h2⟩ := messageCheck_eq_none.1 hc
      rw [exec_ecbEnc_ok hc, completeOk_runMessage (ecbEnc_loop s s.blockCount)] at h
      cases h
      exact .inr ⟨s, _, _, .inl ⟨by decide, rfl⟩, Nat.le_refl _, h1, h2, rfl⟩
  | ecbDec =>
    cases hc : messageCheck s with
    | some k =>
      rw [exec_ecbDec_error hc] at h
      cases h
      exact .inl ⟨k, check_ne_ok (.inr (.inl hc)), rfl⟩
    | none =>
      obtain ⟨h1, h2⟩ := messageCheck_eq_none.1 hc
      obtain ⟨n, hn, he⟩ := completeOk_stripOutlen (ecbDec_loop s s.blockCount)
      rw [exec_ecbDec_ok hc, he] at h
      cases h
      exact .inr ⟨s, n, _, .inl ⟨by decide, rfl⟩, hn, h1, h2, rfl⟩
  | cbcEnc =>
    cases hc : cbcEncCheck s with
    | some k =>
      rw [exec_cbcEnc_error hc] at h
      cases h
      exact .inl ⟨k, check_ne_ok (.inr (.inr (.inl hc))), rfl⟩
    | none =>
      obtain ⟨h1, h2, h3⟩ := cbcEncCheck_eq_none.1 hc
      have hf : (loadCv (autoIv s)).blockCount = s.blockCount ∧ (loadCv (autoIv s)).paddedLength = s.paddedLength ∧
          (loadCv (autoIv s)).outbuf = s.outbuf := by
        rw [loadCv_autoIv]
        exact ⟨rfl, rfl, rfl⟩
      rw [exec_cbcEnc_ok hc, completeOk_runMessage (cbcEnc_loop (loadCv (autoIv s)) _).1, hf.1, hf.2.1, hf.2.2] at h
      cases h
      exact .inr ⟨autoIv s, _, _, .inr ⟨rfl, rfl⟩, Nat.le_refl _, h1, h2, rfl⟩
  | cbcDec =>
    cases hc : cbcDecCheck s with
    | some k =>
      rw [exec_cbcDec_error hc] at h
      cases h
      exact .inl ⟨k, check_ne_ok (.inr (.inr (.inr hc))), rfl⟩
    | none =>
      obtain ⟨h1, h2, h3⟩ := cbcDecCheck_eq_none.1 hc
      rw [exec_cbcDec_ok hc, completeOk_runMessage (cbcDec_loop (loadCv s) _).1] at h
      cases h
      exact .inr ⟨s, _, _, .inl ⟨by decide, rfl⟩, Nat.le_refl _, h1, h2, rfl⟩
  | keysched n => cases hi
  | setIv n => cases hi
  | genIv => cases hi
  | blkEnc => cases hi
  | blkDec => cases hi

/-- What a command that is not a message command can do, command by command. -/
theorem exec_register_cases {i : Instr} {s t : State} (hi : isMessage i = false) (h : exec i s = .next t) :
    (∃ k, k ≠ .ok ∧ t = raiseError k s) ∨
    (∃ n, i = .keysched n ∧ 1 ≤ n ∧ n ≤ 56 ∧
      t = completeOk { s with dp := derive s.cfg.init s.keyByte n, schedValid := true }) ∨
    (i = .setIv 8 ∧ t = completeOk { s with ivreg := s.ivstage, ivValid := true }) ∨
    (i = .genIv ∧ t = completeOk (drawIv s)) ∨
    (i = .blkEnc ∧ s.schedValid = true ∧ t = completeOk (blockRaw encipherHalves s)) ∨
    (i = .blkDec ∧ s.schedValid = true ∧ t = completeOk (blockRaw decipherHalves s)) := by
  cases i with
  | keysched n =>
    by_cases hn : n = 0 ∨ 56 < n
    · rw [exec_keysched_error s hn] at h
      cases h
      exact .inl ⟨_, by decide, rfl⟩
    · have hn' : 1 ≤ n ∧ n ≤ 56 := by omega
      rw [exec_keysched_ok s hn'] at h
      cases h
      exact .inr (.inl ⟨n, rfl, hn'.1, hn'.2, rfl⟩)
  | setIv n =>
    by_cases hn : n = 8
    · subst hn
      rw [exec_setIv_ok] at h
      cases h
      exact .inr (.inr (.inl ⟨rfl, rfl⟩))
    · rw [exec_setIv_error s hn] at h
      cases h
      exact .inl ⟨_, by decide, rfl⟩
  | genIv =>
    rw [exec_genIv] at h
    cases h
    exact .inr (.inr (.inr (.inl ⟨rfl, rfl⟩)))
  | blkEnc =>
    cases hc : schedCheck s with
    | some k =>
      rw [exec_blkEnc_error hc] at h
      cases h
      exact .inl ⟨k, check_ne_ok (.inl hc), rfl⟩
    | none =>
      rw [exec_blkEnc_ok hc] at h
      cases h
      exact .inr (.inr (.inr (.inr (.inl ⟨rfl, schedCheck_eq_none.1 hc, rfl⟩))))
  | blkDec =>
    cases hc : schedCheck s with
    | some k =>
      rw [exec_blkDec_error hc] at h
      cases h
      exact .inl ⟨k, check_ne_ok (.inl hc), rfl⟩
    | none =>
      rw [exec_blkDec_ok hc] at h
      cases h
      exact .inr (.inr (.inr (.inr (.inr ⟨rfl, schedCheck_eq_none.1 hc, rfl⟩))))
  | ecbEnc => cases hi
  | ecbDec => cases hi
  | cbcEnc => cases hi
  | cbcDec => cases hi

/-! ### Every command at once -/

/-- What a command does to the tables: nothing, or it is a KEYSCHED that succeeds (R38, R39, R40). -/
theorem exec_tables_cases {i : Instr} {s t : State} (h : exec i s = .next t) :
    (t.dp.tables = s.dp.tables ∧ t.schedValid = s.schedValid) ∨
    ∃ n, i = .keysched n ∧ 1 ≤ n ∧ n ≤ 56 ∧ t.err = .ok ∧ t.schedValid = true ∧
      t.dp.tables = (derive s.cfg.init s.keyByte n).tables := by
  cases hm : isMessage i
  · rcases exec_register_cases hm h with
      ⟨k, -, rfl⟩ | ⟨n, rfl, h1, h2, rfl⟩ | ⟨-, rfl⟩ | ⟨-, rfl⟩ | ⟨-, -, rfl⟩ | ⟨-, -, rfl⟩
    · exact .inl ⟨rfl, rfl⟩
    · exact .inr ⟨n, rfl, h1, h2, rfl, rfl, by rw [completeOk_dp]⟩
    · exact .inl ⟨rfl, rfl⟩
    · exact .inl ⟨rfl, rfl⟩
    · exact .inl ⟨rfl, rfl⟩
    · exact .inl ⟨rfl, rfl⟩
  · rcases exec_message_cases hm h with ⟨k, -, rfl⟩ | ⟨u, n, out, hu, -, -, -, rfl⟩
    · exact .inl ⟨rfl, rfl⟩
    · rcases hu with ⟨-, rfl⟩ | ⟨-, rfl⟩
      · exact .inl ⟨rfl, rfl⟩
      · rw [autoIv_frame]
        exact .inl ⟨rfl, rfl⟩

/-- What a command does to the IV: nothing, or it is a SET_IV 8, a GEN_IV or a CBC_ENC that draws (R41, R109). -/
theorem exec_iv_cases {i : Instr} {s t : State} (h : exec i s = .next t) :
    (t.ivreg = s.ivreg ∧ t.ivValid = s.ivValid ∧ t.entDraws = s.entDraws) ∨
    (t.err = .ok ∧ t.ivValid = true ∧
      (i = .setIv 8 ∨ i = .genIv ∨ (i = .cbcEnc ∧ t.entDraws = s.entDraws + 1))) := by
  cases hm : isMessage i
  · rcases exec_register_cases hm h with
      ⟨k, -, rfl⟩ | ⟨n, rfl, h1, h2, rfl⟩ | ⟨rfl, rfl⟩ | ⟨rfl, rfl⟩ | ⟨-, -, rfl⟩ | ⟨-, -, rfl⟩
    · exact .inl ⟨rfl, rfl, rfl⟩
    · exact .inl ⟨rfl, rfl, rfl⟩
    · exact .inr ⟨rfl, rfl, .inl rfl⟩
    · exact .inr ⟨rfl, rfl, .inr (.inl rfl)⟩
    · exact .inl ⟨rfl, rfl, rfl⟩
    · exact .inl ⟨rfl, rfl, rfl⟩
  · rcases exec_message_cases hm h with ⟨k, -, rfl⟩ | ⟨u, n, out, hu, -, -, -, rfl⟩
    · exact .inl ⟨rfl, rfl, rfl⟩
    · rcases hu with ⟨-, rfl⟩ | ⟨hi, rfl⟩
      · exact .inl ⟨rfl, rfl, rfl⟩
      · cases hv : s.ivValid
        · refine .inr ⟨rfl, ?_, .inr (.inr ⟨hi, ?_⟩)⟩ <;> simp [autoIv, hv, drawIv]
        · refine .inl ⟨?_, ?_, ?_⟩ <;> simp [autoIv, hv]

end Sys2Proof.Machine
end

