-- ==== Sys2Proof/Laws/PerInstr.lean ====
section
/-! SUPPORT. The fields of each command's encoding (spec R67, R68, R69), one lemma per constructor. -/

namespace Sys2Proof.Laws.EncodedFields

open Sys2Proof

/-- OPCODE of a command (R69). -/
def opcode : Instr → Byte
  | .keysched _ => 0x01
  | .setIv _ => 0x02
  | .genIv => 0x03
  | .blkEnc => 0x10
  | .blkDec => 0x11
  | .ecbEnc => 0x20
  | .ecbDec => 0x21
  | .cbcEnc => 0x22
  | .cbcDec => 0x23

/-- ARG of a command: its byte count, or 0 (R68, R69). -/
def arg : Instr → Nat
  | .keysched n => n
  | .setIv n => n
  | .genIv => 0
  | .blkEnc => 0
  | .blkDec => 0
  | .ecbEnc => 0
  | .ecbDec => 0
  | .cbcEnc => 0
  | .cbcDec => 0

/-- The three fields of the encoding of a well-formed command. -/
def Statement (i : Instr) : Prop :=
  i.wellFormed = true →
    rsvdField (encode i) = 0#16 ∧ (argField (encode i)).toNat = arg i ∧ opcodeField (encode i) = opcode i

theorem keysched (n : Nat) : Statement (.keysched n) := by
  intro h
  have hn : n < 256 := by simpa [Instr.wellFormed] using h
  simp [encode, arg, opcode, Nat.mod_eq_of_lt hn]

theorem setIv (n : Nat) : Statement (.setIv n) := by
  intro h
  have hn : n < 256 := by simpa [Instr.wellFormed] using h
  simp [encode, arg, opcode, Nat.mod_eq_of_lt hn]

theorem genIv : Statement .genIv := by simp [Statement, encode, arg, opcode]

theorem blkEnc : Statement .blkEnc := by simp [Statement, encode, arg, opcode]

theorem blkDec : Statement .blkDec := by simp [Statement, encode, arg, opcode]

theorem ecbEnc : Statement .ecbEnc := by simp [Statement, encode, arg, opcode]

theorem ecbDec : Statement .ecbDec := by simp [Statement, encode, arg, opcode]

theorem cbcEnc : Statement .cbcEnc := by simp [Statement, encode, arg, opcode]

theorem cbcDec : Statement .cbcDec := by simp [Statement, encode, arg, opcode]

end Sys2Proof.Laws.EncodedFields
end

