-- ==== Sys2Proof/Tests/Slice0.lean ====
section
/-! SUPPORT. Tests: the WellFormed smoke, command words written out bit by bit, small vectors of spec/95_test_vectors.md, one step per
command on small states, and a witness for the hypotheses of every statement. Expected values come from the spec's vectors or
from hand calculation. -/

namespace Sys2Proof.Machine.Tests

open Sys2Proof Sys2Proof.Machine

/-! ### Small states -/

/-- The state a command leaves. -/
def after (i : Instr) (s : State) : State :=
  match exec i s with
  | .next t => t
  | .fault _ => s
  | .refused _ => s

/-- Tables of zeros. F is then 0 (R87) and every round XORs 0, so encipher and decipher just swap the halves (R88, R89): the
expected values below are by hand. -/
def zeroTables : Tables := ⟨Vector.replicate 18 0, Vector.replicate 4 (Vector.replicate 256 0)⟩

/-- The default constant tables as working tables (as after step 1, R78). -/
def piTables : Tables := State.reset.cfg.init

/-- A reset state with a schedule of zero tables, and nothing else. -/
def scheduled : State := { State.reset with schedValid := true, dp := ⟨zeroTables, 0, 0⟩ }

/-- With a message of 9 bytes 01, 02, ..., 09: two blocks, the second 09 and seven zeros of padding. -/
def message9 : State :=
  { scheduled with
    msglen := 9
    inbuf := [(0, 1), (1, 2), (2, 3), (3, 4), (4, 5), (5, 6), (6, 7), (7, 8), (8, 9)] }

/-- With an IV of 10, 20, ..., 80 as well. -/
def message9Iv : State := { message9 with ivreg := 0x1020304050607080, ivValid := true }

/-- With the message that a 9-byte encryption leaves in OUTBUF, 16 bytes. -/
def fedBack (t : State) : State := { t with inbuf := t.outbuf, msglen := t.outlen, outbuf := [] }

/-- Every host-writable register non-zero, an IV held, a command just completed: what a reset must clear. -/
def dirty : State :=
  { message9Iv with
    ctrl := ⟨true, false, true⟩, done := true, err := .ivNotSet, seq := .busy 0x22, cmd := 0x22, outlen := 8, xl := 1, xr := 2,
    ivstage := 3, keybuf := Vector.replicate 56 7, outbuf := [(0, 1)], events := [.reset] }

/-! ### WellFormed refuses what has no encoding (R76) -/

theorem test_keysched_256_ill_formed : (Instr.keysched 256).wellFormed = false := by decide
theorem test_setIv_256_ill_formed : (Instr.setIv 256).wellFormed = false := by decide
theorem test_keysched_255_well_formed : (Instr.keysched 255).wellFormed = true := by decide
theorem test_setIv_0_well_formed : (Instr.setIv 0).wellFormed = true := by decide

/-! ### Command words, RSVD ARG OPCODE, written out from R67 and R69 -/

theorem test_word_keysched_8 : decode 0b0000000000000000_00001000_00000001#32 = .instr (.keysched 8) := by decide
theorem test_word_keysched_56 : decode 0b0000000000000000_00111000_00000001#32 = .instr (.keysched 56) := by decide
theorem test_word_setIv_8 : decode 0b0000000000000000_00001000_00000010#32 = .instr (.setIv 8) := by decide
theorem test_word_genIv : decode 0b0000000000000000_00000000_00000011#32 = .instr .genIv := by decide
theorem test_word_blkEnc : decode 0b0000000000000000_00000000_00010000#32 = .instr .blkEnc := by decide
theorem test_word_blkDec : decode 0b0000000000000000_00000000_00010001#32 = .instr .blkDec := by decide
theorem test_word_ecbEnc : decode 0b0000000000000000_00000000_00100000#32 = .instr .ecbEnc := by decide
theorem test_word_ecbDec : decode 0b0000000000000000_00000000_00100001#32 = .instr .ecbDec := by decide
theorem test_word_cbcEnc : decode 0b0000000000000000_00000000_00100010#32 = .instr .cbcEnc := by decide
theorem test_word_cbcDec : decode 0b0000000000000000_00000000_00100011#32 = .instr .cbcDec := by decide
theorem test_word_zero_illegal : decode 0x00000000#32 = .illegal .reservedOpcode := by decide
theorem test_word_reserved_illegal : decode 0x00000024#32 = .illegal .reservedOpcode := by decide
theorem test_word_arg_illegal : decode 0x00000103#32 = .illegal .argNonzero := by decide
theorem test_word_rsvd_illegal : decode 0x00010010#32 = .illegal .rsvdNonzero := by decide

/-! ### Vectors of 95_test_vectors.md -/

/-- V-F-1. -/
theorem test_roundF_zero : roundF piTables 0x00000000 = 0x2FCFF51E := by decide +kernel
/-- V-F-2. -/
theorem test_roundF_bytes : roundF piTables 0x01020304 = 0x3CEDFF8C := by decide +kernel
/-- V-F-3. -/
theorem test_roundF_ones : roundF piTables 0xFFFFFFFF = 0x452C2867 := by decide +kernel

/-- Section 2.2, step 2 alone with the key 01 02 03. -/
theorem test_mixKey_three_bytes :
    let t := mixKey (fun i => BitVec.ofNat 8 (i + 1)) 3 piTables
    (subkey t 0, subkey t 1, subkey t 2, subkey t 3) = (0x253D6989, 0x87A009D1, 0x1018882D, 0x02727045) := by
  decide +kernel

/-- V-WO-1, V-WO-2. -/
theorem test_b2h : b2h 0x0011223344556677 false = (0x00112233, 0x44556677) ∧
    b2h 0x0011223344556677 true = (0x77665544, 0x33221100) := by decide
/-- V-WO-3. -/
theorem test_h2b : h2b (0x77665544, 0x33221100) true = 0x0011223344556677 := by decide

/-- V-HOST-1. -/
theorem test_hexEnc : hexEnc [0xFE, 0xDC, 0xBA, 0x98] = ['f', 'e', 'd', 'c', 'b', 'a', '9', '8'] := by decide
/-- V-HOST-2. -/
theorem test_hexDec_invalid_digit : hexDec ['F', 'e', 'Z', '1'] = [0xFE, 0x01] := by decide
/-- V-HOST-3. -/
theorem test_hexDec_odd : hexDec ['a', 'b', 'c'] = [0xAB] := by decide

/-- R77, log 17: a message of 12 bytes on an instance of 8 bytes writes INBUF0 and INBUF1, no other INBUFw, and MSGLEN = 12. -/
theorem test_loadMsg_tooLong : loadMsg 8 [1, 2, 3, 4, 5, 6, 7, 8, 9, 10, 11, 12] =
    [.bus (.write 0x4000 0x01020304), .bus (.write 0x4004 0x05060708), .bus (.write 0x000C 12)] := by decide
/-- R120: a text of 8 characters loads its four bytes zero-filled, issues SET_IV 4 and stops there (V-HOST-7). -/
theorem test_cbcTextDecrypt_short : cbcTextDecrypt 4096 ['f', 'e', 'd', 'c', 'b', 'a', '9', '8'] 0 0 =
    [.bus (.write 0x0028 0xFEDCBA98), .bus (.write 0x002C 0), .bus (.write 0x0008 0x00000402), .engine,
      .bus (.read 0x0004)] := by decide
/-- R119: the last two moves of a CBC text encrypt read IV0 and IV1. -/
theorem test_cbcTextEncrypt_reads : (cbcTextEncrypt 4096 [] 0).map (·.reverse.take 2) =
    some [.bus (.read 0x0024), .bus (.read 0x0020)] := by decide
/-- R143, log 17: a failure is returned as its code. -/
theorem test_cbcTextDecrypted_failed : cbcTextDecrypted (after (.setIv 4) State.reset) = .failed .invalidIvLength := by decide
/-- R118: the text of the 1-byte message 01 enciphered under zero tables (halves swapped, by hand). -/
theorem test_ecbTextEncrypted :
    ecbTextEncrypted (after .ecbEnc { message9 with msglen := 1 }) =
      .text ['0', '0', '0', '0', '0', '0', '0', '0', '0', '1', '0', '0', '0', '0', '0', '0'] := by decide +kernel
/-- R119: the IV comes from the two answers. -/
theorem test_ivRead : ivRead { State.reset with responses := [.data 0x76543210, .data 0xFEDCBA98, .ok] } =
    some 0xFEDCBA9876543210 := by decide

/-! ### One step per command -/

/-- V-ERR-3: KEYSCHED 57 at reset. -/
theorem test_keysched_57 : statusWord (after (.keysched 57) State.reset) = 0x00000102 := by decide
/-- R84: KEYSCHED 56 sets SCHED_VALID and leaves MSGLEN. -/
theorem test_keysched_56 : (after (.keysched 56) State.reset).schedValid = true := by rfl

/-- V-IV-1. -/
theorem test_setIv_8 :
    let t := after (.setIv 8) { State.reset with ivstage := 0xFEDCBA9876543210 }
    (busRead 0x0020 t, busRead 0x0024 t, statusWord t) = (.data 0xFEDCBA98, .data 0x76543210, 0x0000000A) := by decide
/-- V-IV-2. -/
theorem test_setIv_7 :
    let t := after (.setIv 7) { State.reset with ivstage := 0xFEDCBA9876543210 }
    (t.ivreg, statusWord t) = (0, 0x00000202) := by decide

/-- R108: GEN_IV uses one draw and sets IV_VALID. -/
theorem test_genIv : statusWord (after .genIv State.reset) = 0x0000000A ∧ (after .genIv State.reset).entDraws = 1 := by
  decide

/-- V-F-5, through BLK_ENC: encipher(0, 0) under the constant tables. -/
theorem test_blkEnc :
    let t := after .blkEnc { scheduled with dp := ⟨piTables, 0, 0⟩ }
    (t.xl, t.xr) = (0x706D9FCC, 0x1792D23A) := by decide +kernel
/-- V-ERR-5. -/
theorem test_blkEnc_noSchedule : statusWord (after .blkEnc State.reset) = 0x00000402 := by decide

/-- V-F-5 read backwards (R90), through BLK_DEC. -/
theorem test_blkDec :
    let t := after .blkDec { scheduled with dp := ⟨piTables, 0, 0⟩, xl := 0x706D9FCC, xr := 0x1792D23A }
    (t.xl, t.xr) = (0, 0) := by decide +kernel
/-- BLK_DEC ignores WORD_ORDER (R93): under zero tables it swaps the halves (R89). -/
theorem test_blkDec_wordOrder :
    let t := after .blkDec { scheduled with ctrl := ⟨true, true, false⟩, xl := 0x11223344, xr := 0x55667788 }
    (t.xl, t.xr) = (0x55667788, 0x11223344) := by decide +kernel

/-- Under zero tables a block's halves swap; the second block is 09 and seven zeros (R97, R100); by hand. -/
theorem test_ecbEnc :
    let t := after .ecbEnc message9
    (t.outputBlock 0, t.outputBlock 1, t.outlen) = (0x0506070801020304, 0x0000000009000000, 16) := by decide +kernel
/-- V-ERR-7: MSGLEN = MSG_MAX + 1. -/
theorem test_ecbEnc_tooLong : statusWord (after .ecbEnc { scheduled with msglen := 4097 }) = 0x00000606 := by decide

/-- The strip crosses no further than the last non-zero byte: the output 05 .. 08 01 .. 04, 00 00 00 00 09 00 00 00 has length 13
(R101, R102); by hand. -/
theorem test_ecbDec :
    let t := after .ecbDec message9
    (t.outputBlock 1, t.outlen) = (0x0000000009000000, 13) := by decide +kernel
/-- Non-standard order (R94, R95): under zero tables, swapping the halves of b2h(x, 1) gives the block with each word's bytes
in place and the two words swapped; by hand. -/
theorem test_ecbDec_wordOrder :
    let t := after .ecbDec { message9 with ctrl := ⟨true, true, false⟩ }
    t.outputBlock 0 = 0x0506070801020304 := by decide +kernel

/-- Block 0 is swap(M0 ^ IV), block 1 is swap(M1 ^ block 0) (R103); by hand. -/
theorem test_cbcEnc :
    let t := after .cbcEnc message9Iv
    (t.outputBlock 0, t.outputBlock 1, t.ivreg) =
      (0x5566778811223344, 0x112233445C667788, 0x1020304050607080) := by decide +kernel
/-- V-IV-5: the automatic IV on an empty message. -/
theorem test_cbcEnc_autoIv :
    let t := after .cbcEnc scheduled
    (statusWord t, t.outlen, t.entDraws) = (0x0000000E, 0, 1) := by decide

/-- Block 0 is swap(M0) ^ IV, block 1 is swap(M1) ^ M0 (R104); by hand. -/
theorem test_cbcDec :
    let t := after .cbcDec message9Iv
    (t.outputBlock 0, t.outputBlock 1, t.outlen) = (0x1526374851627384, 0x010203040C060708, 16) := by decide +kernel
/-- V-ERR-9, V-IV-7: no IV, whatever AUTO_IV holds. -/
theorem test_cbcDec_noIv : statusWord (after .cbcDec { scheduled with msglen := 8 }) = 0x00000306 := by decide

/-! ### The bus -/

/-- V-BUS-1, V-BUS-3, V-BUS-4, V-BUS-5. -/
theorem test_bus_reads : [busRead 0x0002 State.reset, busRead 0x0030 State.reset, busRead 0x0100 State.reset,
    busRead 0x5000 State.reset] = [.busError, .busError, .busError, .busError] := by decide
/-- V-BUS-2, V-BUS-10. -/
theorem test_bus_readOnly : (busWrite 0x0010 5 State.reset).isNone = true ∧ (busWrite 0x0020 5 State.reset).isNone = true := by
  decide
/-- V-BUS-7, V-BUS-8, V-BUS-9. -/
theorem test_bus_busy :
    let s := accept 0x00000010 State.reset
    (busWrite 0x0014 5 s).isNone = true ∧ (busWrite 0x0008 5 s).isNone = true ∧ busRead 0x0004 s = .data 0x00000001 := by
  decide
/-- V-BUS-11. -/
theorem test_bus_ctrl : (busWrite 0x0000 0xFFFFFFFF State.reset).map (busRead 0x0000) = some (.data 0x00000007) := by decide
/-- R42, R50: PWIN17 and SWIN3_255 are the last words of their windows. -/
theorem test_bus_windows : locate 4096 0x0144 = some (.pwin 17) ∧ locate 4096 0x1FFC = some (.swin 3 255) ∧
    locate 4096 0x0148 = none ∧ locate 4096 0x2000 = none := by decide
/-- R53: the word of INBUF[0..4). -/
theorem test_bus_inbuf : busRead 0x4000 message9 = .data 0x01020304 := by decide

/-! ### Witnesses: for each statement that has hypotheses, a state and operands that meet them together, one per clause -/

/-- A busy reset state holding command word `c`, with these events pending. -/
def holding (c : Word) (events : List Event) : State := { accept c State.reset with events := events }

theorem witness_OpcodeMapWordsDecode : (0 < 256 ∧ decode 0x00000001#32 = .instr (.keysched 0)) ∧
    (255 < 256 ∧ decode 0x0000FF02#32 = .instr (.setIv 255)) := by decide

theorem witness_DecodeEncode : (Instr.keysched 0).wellFormed = true ∧ (Instr.keysched 255).wellFormed = true ∧
    Instr.cbcDec.wellFormed = true := by decide

theorem witness_EncodeDecode : decode 0x0000FF01#32 = .instr (.keysched 255) := by decide

theorem witness_LegalCommandWords_idle : State.reset.seq = .idle := rfl

theorem witness_LegalCommandWords_illegal :
    ((holding 0x24 []).seq = .busy 0x24 ∧ (holding 0x24 []).events = []) ∧
    ((holding 0x24 [.engine, .reset]).seq = .busy 0x24 ∧ (holding 0x24 [.engine, .reset]).events = .engine :: [.reset]) ∧
    ∀ i, decode 0x24 ≠ .instr i := by
  refine ⟨⟨rfl, rfl⟩, ⟨rfl, rfl⟩, fun i h => ?_⟩
  rw [show decode 0x24 = .illegal .reservedOpcode from by decide] at h
  cases h

theorem witness_CommandAcceptance_idle :
    let s := { State.reset with events := [.bus (.write 0x0008 0x10), .engine] }
    s.seq = .idle ∧ s.events = .bus (.write 0x0008 0x10) :: [.engine] := ⟨rfl, rfl⟩

theorem witness_CommandAcceptance_busy :
    let s := holding 0x22 [.bus (.write 0x0008 0x10)]
    s.seq = .busy 0x22 ∧ s.events = .bus (.write 0x0008 0x10) :: [] := ⟨rfl, rfl⟩

theorem witness_StepRunsDecodedCommand : decode 0x00000802#32 = .instr (.setIv 8) ∧
    ((holding 0x802 []).seq = .busy 0x802 ∧ (holding 0x802 []).events = []) ∧
    ((holding 0x802 [.engine, .reset]).seq = .busy 0x802 ∧ (holding 0x802 [.engine, .reset]).events = .engine :: [.reset]) :=
  ⟨by decide, ⟨rfl, rfl⟩, ⟨rfl, rfl⟩⟩

theorem witness_PlacedWordRunsNext : decodeTableWord 32 0x22 = some .cbcEnc ∧ decodeTableWord 32 0x3801 = some (.keysched 56) := by
  decide

theorem witness_ErrorPriority_illegal : ∀ i, decode 0x00010010 ≠ .instr i := by
  intro i h
  rw [show decode 0x00010010 = .illegal .rsvdNonzero from by decide] at h
  cases h

theorem witness_ErrorPriority_keysched : ∃ t u, exec (.keysched 57) State.reset = .next t ∧
    exec (.keysched 56) State.reset = .next u := ⟨_, _, exec_keysched_error _ (by decide), exec_keysched_ok _ (by decide)⟩

theorem witness_ErrorPriority_setIv : ∃ t u, exec (.setIv 7) State.reset = .next t ∧ exec (.setIv 8) State.reset = .next u :=
  ⟨_, _, rfl, rfl⟩

theorem witness_ErrorPriority_genIv : ∃ t, exec .genIv State.reset = .next t := ⟨_, rfl⟩

theorem witness_ErrorPriority_blk : ∃ t u v w, exec .blkEnc State.reset = .next t ∧ exec .blkEnc scheduled = .next u ∧
    exec .blkDec State.reset = .next v ∧ exec .blkDec scheduled = .next w := ⟨_, _, _, _, rfl, rfl, rfl, rfl⟩

theorem witness_ErrorPriority_ecb : ∃ t u v w, exec .ecbEnc State.reset = .next t ∧ exec .ecbEnc message9 = .next u ∧
    exec .ecbDec { message9 with msglen := 4097 } = .next v ∧ exec .ecbDec message9 = .next w :=
  ⟨_, _, _, _, rfl, rfl, rfl, rfl⟩

theorem witness_ErrorPriority_cbc : ∃ t u v w, exec .cbcEnc { message9 with ctrl := ⟨false, false, false⟩ } = .next t ∧
    exec .cbcEnc message9 = .next u ∧ exec .cbcDec message9 = .next v ∧ exec .cbcDec message9Iv = .next w :=
  ⟨_, _, _, _, rfl, rfl, rfl, rfl⟩

theorem witness_ErrorPriority_failed : ∃ t, exec .blkEnc State.reset = .next t ∧ t.err ≠ .ok := ⟨_, rfl, by decide⟩

theorem witness_KeyschedResult : (1 ≤ 1 ∧ 1 ≤ 56) ∧ (1 ≤ 56 ∧ 56 ≤ 56) := by decide

theorem witness_FailedKeyschedChangesNothing : ((0 = 0 ∨ 0 > 56) ∧ (57 = 0 ∨ 57 > 56)) ∧
    ∃ t, exec (.keysched 255) State.reset = .next t ∧ t.err ≠ .ok :=
  ⟨by decide, _, exec_keysched_error _ (by decide), by decide⟩

theorem witness_KeyBytesRepeatCyclically : (1 ≤ 1 ∧ 17 < 18) ∧ 1 ≤ 56 := by decide

theorem witness_ScheduleWritesInOrder : (8 < 9 ∧ 17 < 18) ∧ (3 < 4 ∧ 127 < 128 ∧ 255 < 256) ∧
    mixKey (fun _ => 0) 8 zeroTables = mixKey (fun _ => 0) 8 zeroTables := ⟨by decide, by decide, rfl⟩

theorem witness_EncipherDecipherRounds : 7 < 8 ∧ 17 < 18 := by decide

/-- Two key buffers that agree on the first byte and differ on the second. -/
theorem witness_TablesSnapshotTheKey :
    let s' := { State.reset with keybuf := (Vector.replicate 56 0).set 1 9 }
    State.reset.cfg.init = s'.cfg.init ∧ (∀ i, i < 1 → State.reset.keyByte i = s'.keyByte i) ∧
      State.reset.keyByte 1 ≠ s'.keyByte 1 ∧
      ∃ t t', exec (.keysched 1) State.reset = .next t ∧ exec (.keysched 1) s' = .next t' ∧ t.err = .ok :=
  ⟨rfl, by decide, by decide, _, _, exec_keysched_ok _ (by decide), exec_keysched_ok _ (by decide), completeOk_err _⟩

theorem witness_TablesSnapshotTheKey_write : ∃ t, busWrite 0x0040 0xFFFFFFFF scheduled = some t := ⟨_, rfl⟩

theorem witness_ZeroKeysGiveOneSchedule : (1 ≤ 1 ∧ 1 ≤ 56) ∧ (1 ≤ 56 ∧ 56 ≤ 56) ∧
    (∀ i, i < 1 → (fun _ : Nat => (0 : Byte)) i = 0) ∧ (∀ i, i < 56 → (fun _ : Nat => (0 : Byte)) i = 0) :=
  ⟨by decide, by decide, fun _ _ => rfl, fun _ _ => rfl⟩

theorem witness_BlkEncResult : scheduled.schedValid = true ∧ State.reset.schedValid = false := ⟨rfl, rfl⟩

theorem witness_BlkDecResult : scheduled.schedValid = true ∧ State.reset.schedValid = false := ⟨rfl, rfl⟩

theorem witness_RawCommandsUndoEachOther : scheduled.schedValid = true := rfl

theorem witness_StripIsLastNonzero : (∀ i, i < 8 → (fun _ : Nat => (0 : Byte)) i = 0) ∧
    0 < strip (fun i => BitVec.ofNat 8 i) 3 := ⟨fun _ _ => rfl, by decide⟩

theorem witness_EcbEncResult : message9.cfg.Legal ∧ message9.outbuf.wf ∧ message9.schedValid = true ∧
    message9.msglen.toNat ≤ message9.cfg.msgMax := by decide

theorem witness_EcbDecResult :
    let s := { message9 with msglen := 4096 }
    s.cfg.Legal ∧ s.outbuf.wf ∧ s.schedValid = true ∧ s.msglen.toNat ≤ s.cfg.msgMax := by decide

theorem witness_CbcEncResult_held : message9Iv.cfg.Legal ∧ message9Iv.outbuf.wf ∧ message9Iv.schedValid = true ∧
    message9Iv.msglen.toNat ≤ message9Iv.cfg.msgMax ∧ (message9Iv.ivValid = true ∨ message9Iv.ctrl.autoIv = true) := by decide

theorem witness_CbcEncResult_drawn : message9.cfg.Legal ∧ message9.outbuf.wf ∧ message9.schedValid = true ∧
    message9.msglen.toNat ≤ message9.cfg.msgMax ∧ (message9.ivValid = true ∨ message9.ctrl.autoIv = true) := by decide

theorem witness_CbcDecResult : message9Iv.cfg.Legal ∧ message9Iv.outbuf.wf ∧ message9Iv.schedValid = true ∧
    message9Iv.msglen.toNat ≤ message9Iv.cfg.msgMax ∧ message9Iv.ivValid = true := by decide

theorem witness_MessageCommandsWriteAllOrNothing : isMessage .ecbDec = true ∧ message9.outbuf.wf ∧
    (∃ t, exec .ecbDec message9 = .next t ∧ t.err = .ok) ∧ (∃ t, exec .ecbDec State.reset = .next t ∧ t.err ≠ .ok) :=
  ⟨rfl, by decide, ⟨_, rfl, rfl⟩, ⟨_, rfl, by decide⟩⟩

/-- Another INBUF that holds FF in the first byte of the padding. -/
theorem witness_PaddingIgnoresInbuf_command : isMessage .cbcEnc = true ∧
    (∀ a, a < message9.msglen.toNat →
      (Memory.find (message9.inbuf.store 9 0xFF) a).getD (Config.inbufReset message9.resets a) = message9.inbufByte a) ∧
    (message9.inbuf.store 9 0xFF) ≠ message9.inbuf ∧ ∃ t, exec .cbcEnc message9 = .next t :=
  ⟨rfl, by decide, by decide, _, rfl⟩

/-- R97 by hand, at the lengths 0, 1, 8 and 9: N, the last byte of the message and the first of the padding, over an INBUF that
holds a non-zero byte there. -/
theorem witness_PaddingIgnoresInbuf_lengths :
    let s (n : Word) : State := { message9 with msglen := n, inbuf := message9.inbuf.store 9 0xFF }
    ((s 0).paddedLength, (s 1).paddedLength, (s 8).paddedLength, (s 9).paddedLength) = (0, 8, 8, 16) ∧
    ((s 1).messageByte 0, (s 8).messageByte 7, (s 9).messageByte 8) = (1, 8, 9) ∧
    ((s 0).inbufByte 0, (s 1).inbufByte 1, (s 8).inbufByte 8, (s 9).inbufByte 9) = (1, 2, 9, 0xFF) ∧
    ((s 0).messageByte 0, (s 1).messageByte 1, (s 8).messageByte 8, (s 9).messageByte 9) = (0, 0, 0, 0) ∧
    ((s 9).messageBlock 0, (s 9).messageBlock 1) = (0x0102030405060708, 0x0900000000000000) := by decide +kernel

/-- ECB: the 9-byte message enciphered, and its output fed back. -/
theorem witness_EcbRoundTrip :
    let t := after .ecbEnc message9
    let u := fedBack t
    message9.cfg.Legal ∧ message9.outbuf.wf ∧ u.outbuf.wf ∧ exec .ecbEnc message9 = .next t ∧ t.err = .ok ∧
      u.cfg = message9.cfg ∧ u.schedValid = true ∧ u.dp.tables = message9.dp.tables ∧
      u.ctrl.wordOrder = message9.ctrl.wordOrder ∧ u.msglen = t.outlen ∧
      (∀ a, a < t.outlen.toNat → u.inbufByte a = t.outbufByte a) :=
  ⟨by decide, by decide, List.Pairwise.nil, rfl, rfl, rfl, rfl, rfl, rfl, rfl, by decide +kernel⟩

/-- CBC: the same, with the IV held. -/
theorem witness_CbcRoundTrip :
    let t := after .cbcEnc message9Iv
    let u := fedBack t
    message9Iv.cfg.Legal ∧ message9Iv.outbuf.wf ∧ u.outbuf.wf ∧ exec .cbcEnc message9Iv = .next t ∧ t.err = .ok ∧
      u.cfg = message9Iv.cfg ∧ u.schedValid = true ∧ u.dp.tables = message9Iv.dp.tables ∧
      u.ctrl.wordOrder = message9Iv.ctrl.wordOrder ∧ u.ivValid = true ∧ u.ivreg = t.ivreg ∧ u.msglen = t.outlen ∧
      (∀ a, a < t.outlen.toNat → u.inbufByte a = t.outbufByte a) :=
  ⟨by decide, by decide, List.Pairwise.nil, rfl, rfl, rfl, rfl, rfl, rfl, rfl, rfl, rfl, by decide +kernel⟩

theorem witness_WrongIvCorruptsOnlyFirstBlock : message9Iv.outbuf.wf ∧ (∃ t, exec .cbcDec message9Iv = .next t) ∧
    ∃ t, exec .cbcDec { message9Iv with ivreg := 0 } = .next t := ⟨by decide, ⟨_, rfl⟩, ⟨_, rfl⟩⟩

theorem witness_SetIvResult : 7 ≠ 8 ∧ 9 ≠ 8 ∧ 0 ≠ 8 := by decide

theorem witness_AutomaticIv_drawn : message9.schedValid = true ∧ message9.msglen.toNat ≤ message9.cfg.msgMax ∧
    message9.ivValid = false ∧ message9.ctrl.autoIv = true := by decide

theorem witness_AutomaticIv_error :
    let s := { message9 with ctrl := ⟨false, false, false⟩ }
    s.schedValid = true ∧ s.msglen.toNat ≤ s.cfg.msgMax ∧ s.ivValid = false ∧ s.ctrl.autoIv = false := by decide

theorem witness_AutomaticIv_cbcDec : ∃ t, exec .cbcDec message9 = .next t := ⟨_, rfl⟩

theorem witness_BusErrorConditions :
    (serve (.read 0x0002) State.reset).responses = .busError :: State.reset.responses ∧
    (serve (.write 0x0010 5) State.reset).responses = .busError :: State.reset.responses := by decide

theorem witness_AccessWhileBusy : (holding 0x10 []).seq = .busy 0x10 ∧ State.reset.seq = .idle := ⟨rfl, rfl⟩

theorem witness_WordWindowsAreBigEndian_read : (∃ v, busRead 0x0074 State.reset = .data v) ∧
    (∃ v, busRead 0x0024 State.reset = .data v) ∧ (∃ v, busRead 0x002C State.reset = .data v) ∧
    (∃ v, busRead 0x4FFC State.reset = .data v) ∧ (∃ v, busRead 0x8FFC State.reset = .data v) :=
  ⟨⟨_, rfl⟩, ⟨_, rfl⟩, ⟨_, rfl⟩, ⟨_, rfl⟩, ⟨_, rfl⟩⟩

theorem witness_WordWindowsAreBigEndian_write : State.reset.inbuf.wf ∧ (∃ t, busWrite 0x0074 0x01020304 State.reset = some t) ∧
    (∃ t, busWrite 0x002C 0x01020304 State.reset = some t) ∧ (∃ t, busWrite 0x4FFC 0x01020304 State.reset = some t) :=
  ⟨by decide, ⟨_, rfl⟩, ⟨_, rfl⟩, ⟨_, rfl⟩⟩

/-- Block 0 of the 9-byte message: the words 01020304 and 05060708. -/
theorem witness_WordWindowsAreBigEndian_halves : 8 * 0 + 8 ≤ message9.msglen.toNat ∧
    busRead (BitVec.ofNat 16 (0x4000 + 4 * (2 * 0))) message9 = .data 0x01020304 ∧
    busRead (BitVec.ofNat 16 (0x4000 + 4 * (2 * 0 + 1))) message9 = .data 0x05060708 := by decide

theorem witness_RegisterReads : scheduled.seq = .idle ∧ scheduled.schedValid = true ∧ 17 < 18 ∧ (3 < 4 ∧ 255 < 256) :=
  ⟨rfl, rfl, by decide, by decide⟩

/-- The last word of INBUF, the last key word, and CTRL. -/
theorem witness_ReadAfterWrite : State.reset.inbuf.wf ∧ (∃ t, busWrite 0x4FFC 0x01020304 State.reset = some t) ∧
    (∃ t, busWrite 0x0074 0x01020304 State.reset = some t) ∧ (∃ t, busWrite 0x0000 0xFFFFFFFF State.reset = some t) :=
  ⟨by decide, ⟨_, rfl⟩, ⟨_, rfl⟩, ⟨_, rfl⟩⟩

theorem witness_WriteLeavesOtherLocations : State.reset.inbuf.wf ∧ (0x0040#16 ≠ 0x0008 ∧ 0x0044#16 ≠ 0x0040) ∧
    ∃ t, busWrite 0x0040 0x01020304 State.reset = some t := ⟨by decide, by decide, _, rfl⟩

theorem witness_ReadsHaveNoSideEffects :
    ({ State.reset with events := [.bus (.read 0x0004), .engine] } : State).events = .bus (.read 0x0004) :: [.engine] := rfl

theorem witness_StatusWrite : State.reset.seq = .idle ∧ (holding 0x10 []).seq = .busy 0x10 := ⟨rfl, rfl⟩

theorem witness_IrqFalls : ((0x00000002#32).getLsbD 1 = true ∧ ∃ t, busWrite 0x0004 0x00000002 State.reset = some t) ∧
    ((0x00000003#32).getLsbD 2 = false ∧ ∃ t, busWrite 0x0000 0x00000003 State.reset = some t) ∧
    (∃ t, busWrite 0x0008 0x00000010 State.reset = some t) ∧
    ∃ t, exec .genIv { State.reset with ctrl := ⟨false, true, true⟩ } = .next t ∧ irq t = true :=
  ⟨⟨by decide, _, rfl⟩, ⟨by decide, _, rfl⟩, ⟨_, rfl⟩, _, rfl, rfl⟩

theorem witness_DoneRisesOnlyByCompletion : ∃ t, step (holding 0x10 [.engine]) = .next t ∧
    (holding 0x10 [.engine]).done = false ∧ t.done = true := ⟨_, rfl, rfl, rfl⟩

/-- A reset in the middle of a command, from a state in which every register differs from its reset value. -/
theorem witness_ResetValues : dirty.events = .reset :: [] ∧ 55 < 56 := ⟨rfl, by decide⟩

theorem witness_SchedValidRule_keysched : ∃ t u, exec (.keysched 1) State.reset = .next t ∧
    exec (.keysched 0) scheduled = .next u := ⟨_, _, exec_keysched_ok _ (by decide), exec_keysched_error _ (by decide)⟩

theorem witness_SchedValidRule_reset : ∃ t, step { scheduled with events := [.reset] } = .next t ∧
    t.schedValid ≠ scheduled.schedValid := ⟨_, rfl, by decide⟩

theorem witness_SchedValidRule_step : ∃ t, step (holding 0x801 []) = .next t ∧ t.schedValid ≠ (holding 0x801 []).schedValid :=
  ⟨_, exec_keysched_ok (n := 8) _ (by decide), by rw [completeOk_schedValid]; decide⟩

theorem witness_SchedValidRule_gate : (needsSchedule .cbcDec = true ∧ State.reset.schedValid = false) ∧
    WindowOffset (0x0100#16).toNat ∧ WindowOffset (0x0144#16).toNat ∧ WindowOffset (0x1000#16).toNat ∧
    WindowOffset (0x1FFC#16).toNat := by
  refine ⟨⟨rfl, rfl⟩, ?_⟩
  unfold WindowOffset
  decide

theorem witness_IvValidRule_commands : ∃ t u v, exec (.setIv 8) State.reset = .next t ∧ exec .genIv State.reset = .next u ∧
    exec .cbcEnc message9 = .next v ∧ v.entDraws ≠ message9.entDraws := ⟨_, _, _, rfl, rfl, rfl, by decide +kernel⟩

theorem witness_IvValidRule_step : (∃ t, step (holding 0x802 []) = .next t ∧ t.ivValid ≠ (holding 0x802 []).ivValid) ∧
    ∃ t, step { message9Iv with events := [.reset] } = .next t ∧ t.ivValid ≠ message9Iv.ivValid :=
  ⟨⟨_, rfl, by decide⟩, ⟨_, rfl, by decide⟩⟩

theorem witness_OnlyKeyschedWritesTables : ∃ t, step (holding 0x801 []) = .next t :=
  ⟨_, exec_keysched_ok (n := 8) _ (by decide)⟩

theorem witness_CommandsLeaveHostInputs : (∃ t, exec .cbcEnc message9Iv = .next t) ∧
    (Instr.cbcEnc ≠ .blkEnc ∧ Instr.cbcEnc ≠ .blkDec) ∧ isMessage .blkEnc = false := ⟨⟨_, rfl⟩, by decide, rfl⟩

/-- A busy state with an IV held and a message in INBUF. -/
theorem witness_StepKeepsInv : (accept 0x22 message9Iv).Inv ∧ ∃ t, step (accept 0x22 message9Iv) = .next t := by
  refine ⟨⟨by decide, by decide, by decide, by decide, fun c hc => ?_, fun h => by cases h⟩, _, rfl⟩
  cases hc
  exact ⟨rfl, rfl, rfl⟩

/-- A state with a schedule: the one a KEYSCHED 8 of the reset key leaves. -/
theorem witness_StepKeepsScheduled : ∃ s, exec (.keysched 8) State.reset = .next s ∧ s.schedValid = true ∧ s.Scheduled ∧
    ∃ t, step s = .next t :=
  by
  have h : ∀ s : State, (completeOk { s with dp := derive s.cfg.init s.keyByte 8, schedValid := true }).Scheduled := by
    intro s _
    exact ⟨s.keyByte, 8, by decide, by decide, by rw [completeOk_dp, completeOk_cfg]⟩
  exact ⟨_, exec_keysched_ok _ (by decide), completeOk_schedValid _, h _, _, rfl⟩

/-- A busy state whose engine turn comes before a reset, and one whose reset comes first. -/
theorem witness_AcceptedCommandCompletes :
    let first := holding 0x802 [.bus (.read 0x0004), .engine, .reset]
    let abandoned := holding 0x802 [.bus (.read 0x0004), .reset, .engine]
    (first.seq = .busy 0x802 ∧ .reset ∉ first.events.takeWhile (· ≠ .engine)) ∧
    (abandoned.seq = .busy 0x802 ∧ .reset ∈ abandoned.events.takeWhile (· ≠ .engine)) := by decide

end Sys2Proof.Machine.Tests
end

section
/-! PROOFS. The structural invariant `State.Inv` is kept by every step: each kind of move has its own lemma (completion of a
command, write to a location, transaction, reset), and `step_cases` puts them together. -/

namespace Sys2Proof.Machine

/-- An idle engine makes no promise about CMD, DONE and ERR. -/
theorem busyConsistent_of_idle {s : State} (h : s.seq = .idle) : s.busyConsistent := fun c hc => by
  rw [h] at hc
  cases hc

theorem within_nil (size : Nat) : Memory.within [] size := ⟨List.Pairwise.nil, by simp⟩

/-! ### Moves that touch no field of the invariant, and reset -/

theorem inv_popEvent {s : State} (h : s.Inv) : (popEvent s).Inv :=
  ⟨h.legal, h.inbuf, h.outbuf, h.outlen, h.busy, h.iv⟩

theorem inv_respond {s : State} (r : Response) (h : s.Inv) : (respond r s).Inv :=
  ⟨h.legal, h.inbuf, h.outbuf, h.outlen, h.busy, h.iv⟩

theorem inv_raiseError {s : State} (k : Completion) (h : s.Inv) : (raiseError k s).Inv :=
  ⟨h.legal, h.inbuf, h.outbuf, h.outlen, busyConsistent_of_idle rfl, h.iv⟩

/-- After a reset both RAMs list no byte, OUTLEN is 0 and no IV is held (R138). -/
theorem inv_applyReset {s : State} (h : s.cfg.Legal) : (applyReset s).Inv where
  legal := h
  inbuf := within_nil _
  outbuf := within_nil _
  outlen := Nat.zero_le _
  busy := busyConsistent_of_idle rfl
  iv := fun _ => rfl

/-! ### The completion of a command -/

/-- Every command leaves the configuration and INBUF (R149) and ends idle (R123). -/
theorem exec_cfg_inbuf_seq {i : Instr} {s t : State} (h : exec i s = .next t) :
    t.cfg = s.cfg ∧ t.inbuf = s.inbuf ∧ t.seq = .idle := by
  rcases exec_cases i s with ⟨k, -, hk⟩ | ⟨u, hu, hf⟩
  · rw [hk] at h
    cases h
    exact ⟨rfl, rfl, rfl⟩
  · rw [hu] at h
    cases h
    rw [hf]
    exact ⟨rfl, rfl, rfl⟩

/-- A command that is not a message command leaves OUTBUF and OUTLEN. -/
theorem exec_register_output {i : Instr} {s t : State} (hi : isMessage i = false) (h : exec i s = .next t) :
    t.outbuf = s.outbuf ∧ t.outlen = s.outlen := by
  rcases exec_register_cases hi h with
    ⟨k, -, rfl⟩ | ⟨n, -, -, -, rfl⟩ | ⟨-, rfl⟩ | ⟨-, rfl⟩ | ⟨-, -, rfl⟩ | ⟨-, -, rfl⟩ <;> exact ⟨rfl, rfl⟩

/-- A message command leaves OUTBUF and OUTLEN, or it stores the blocks of the padded message, which fit in MSG_MAX (R98), and
an OUTLEN of at most their length. -/
theorem exec_message_output {i : Instr} {s t : State} (hi : isMessage i = true) (h : exec i s = .next t) :
    (t.outbuf = s.outbuf ∧ t.outlen = s.outlen) ∨
    ∃ n out, n ≤ s.paddedLength ∧ s.msglen.toNat ≤ s.cfg.msgMax ∧
      t.outbuf = storeBlocks out s.blockCount s.outbuf ∧ t.outlen = BitVec.ofNat 32 n := by
  rcases exec_message_cases hi h with ⟨k, -, rfl⟩ | ⟨u, n, out, -, hn, -, hm, rfl⟩
  · exact .inl ⟨rfl, rfl⟩
  · exact .inr ⟨n, out, hn, hm, rfl, rfl⟩

/-- Every command keeps OUTBUF canonical and inside MSG_MAX, and OUTLEN inside MSG_MAX. -/
theorem exec_output_within {i : Instr} {s t : State} (hs : s.Inv) (h : exec i s = .next t) :
    t.outbuf.within s.cfg.msgMax ∧ t.outlen.toNat ≤ s.cfg.msgMax := by
  have kept (ho : t.outbuf = s.outbuf ∧ t.outlen = s.outlen) :
      t.outbuf.within s.cfg.msgMax ∧ t.outlen.toNat ≤ s.cfg.msgMax := by
    rw [ho.1, ho.2]
    exact ⟨hs.outbuf, hs.outlen⟩
  cases hi : isMessage i with
  | false => exact kept (exec_register_output hi h)
  | true =>
    rcases exec_message_output hi h with ho | ⟨n, out, hn, hm, hbuf, hlen⟩
    · exact kept ho
    · have hpad := paddedLength_le hs.legal hm
      rw [hbuf, hlen]
      refine ⟨storeBlocks_within out _ _ hs.outbuf ?_, ?_⟩
      · rw [eight_mul_blockCount]
        exact hpad
      · calc (BitVec.ofNat 32 n).toNat ≤ n := by rw [BitVec.toNat_ofNat]; exact Nat.mod_le _ _
          _ ≤ s.cfg.msgMax := hn.trans hpad

/-- Every command leaves IVREG zero or an IV held (R106). -/
theorem exec_ivConsistent {i : Instr} {s t : State} (hs : s.ivConsistent) (h : exec i s = .next t) : t.ivConsistent := by
  intro hv
  rcases exec_iv_cases h with ⟨hreg, hvalid, -⟩ | ⟨-, hvalid, -⟩
  · rw [hreg]
    exact hs (hvalid ▸ hv)
  · rw [hvalid] at hv
    cases hv

theorem inv_exec {i : Instr} {s t : State} (hs : s.Inv) (h : exec i s = .next t) : t.Inv := by
  obtain ⟨hcfg, hin, hseq⟩ := exec_cfg_inbuf_seq h
  obtain ⟨hbuf, hlen⟩ := exec_output_within hs h
  refine ⟨?_, ?_, ?_, ?_, busyConsistent_of_idle hseq, exec_ivConsistent hs.iv h⟩
  · exact hcfg ▸ hs.legal
  · rw [hin, hcfg]
    exact hs.inbuf
  · exact hcfg ▸ hbuf
  · exact hcfg ▸ hlen

/-! ### Host transactions -/

/-- A write to a location keeps SEQ idle, or it accepts a command, and CMD, DONE and ERR are as R72 sets them. -/
theorem writeLocation_busyConsistent {data : Word} {s t : State} {loc : Location} (hidle : s.seq = .idle)
    (h : writeLocation data s loc = some t) : t.busyConsistent := by
  cases loc <;> simp only [writeLocation] at h <;> cases h
  case cmd =>
    rintro c hc
    cases hc
    exact ⟨rfl, rfl, rfl⟩
  case status =>
    refine busyConsistent_of_idle ?_
    unfold writeStatus
    split <;> exact hidle
  all_goals exact busyConsistent_of_idle hidle

/-- A write to a location leaves INBUF, or it stores the four bytes of a word of INBUF. -/
theorem writeLocation_inbuf {data : Word} {s t : State} {loc : Location} (h : writeLocation data s loc = some t) :
    t.inbuf = s.inbuf ∨ ∃ w, loc = .inbuf w ∧ t.inbuf = s.inbuf.storeBytes (4 * w) (bytesBe data) := by
  cases loc <;> simp only [writeLocation] at h <;> cases h
  case inbuf w => exact .inr ⟨w, rfl, rfl⟩
  case status =>
    unfold writeStatus
    split <;> exact .inl rfl
  all_goals exact .inl rfl

/-- A write keeps INBUF inside MSG_MAX: MSG_MAX is a multiple of 8 (R8), so a word of INBUF that begins below it ends below
it. -/
theorem writeLocation_inbuf_within {data : Word} {s t : State} {loc : Location} (hs : s.Inv)
    (hloc : loc.Exists s.cfg.msgMax) (h : writeLocation data s loc = some t) : t.inbuf.within s.cfg.msgMax := by
  rcases writeLocation_inbuf h with hin | ⟨w, rfl, hin⟩ <;> rw [hin]
  · exact hs.inbuf
  · obtain ⟨hmod, -, -⟩ := hs.legal
    have hw : 4 * w < s.cfg.msgMax := hloc.1
    have hend : 4 * w + (bytesBe data).length ≤ s.cfg.msgMax := by
      simp only [bytesBe, List.length_cons, List.length_nil]
      omega
    exact storeBytes_within _ _ _ hs.inbuf hend

theorem inv_busWrite {off : BitVec 16} {data : Word} {s t : State} (hs : s.Inv) (h : busWrite off data s = some t) :
    t.Inv := by
  obtain ⟨hbusy, loc, hloc, hw⟩ := busWrite_cases h
  have hidle : s.seq = .idle := by
    cases hseq : s.seq with
    | idle => rfl
    | busy c => simp [isBusy_busy hseq] at hbusy
  have hin := writeLocation_inbuf_within hs (locate_eq hloc).2 hw
  obtain ⟨-, -, hvalid, hreg, hbuf, hlen, hcfg, -⟩ := writeLocation_frame hw
  refine ⟨?_, ?_, ?_, ?_, writeLocation_busyConsistent hidle hw, fun hv => ?_⟩
  · exact hcfg ▸ hs.legal
  · exact hcfg ▸ hin
  · rw [hbuf, hcfg]
    exact hs.outbuf
  · rw [hlen, hcfg]
    exact hs.outlen
  · rw [hreg]
    exact hs.iv (hvalid ▸ hv)

theorem inv_serve {s : State} (tr : Transaction) (hs : s.Inv) : (serve tr s).Inv := by
  rcases serve_cases tr s with ⟨off, -, he⟩ | ⟨off, data, u, -, hu, he⟩ | ⟨off, data, -, -, he⟩ <;> rw [he]
  · exact inv_respond _ hs
  · exact inv_respond _ (inv_busWrite hs hu)
  · exact inv_respond _ hs

/-! ### Every step -/

/-- Settles O55, by the cases of a step: an idle turn, a command, an illegal word, a transaction, a reset. -/
theorem stepKeepsInv : Obligations.StepKeepsInv := by
  unfold Obligations.StepKeepsInv
  intro s t hs hstep
  have hp : (popEvent s).Inv := inv_popEvent hs
  rcases step_cases s with ⟨-, -, h⟩ | ⟨c, i, -, -, -, h⟩ | ⟨c, w, -, -, -, h⟩ | ⟨tr, -, h⟩ | ⟨-, h⟩ <;>
    rw [h] at hstep
  · cases hstep
    exact hp
  · exact inv_exec hp hstep
  · cases hstep
    exact inv_raiseError _ hp
  · cases hstep
    exact inv_serve tr hp
  · cases hstep
    exact inv_applyReset hp.legal

end Sys2Proof.Machine
end

section
/-! PROOFS. What a step does to the working tables, SCHED_VALID and IV_VALID (spec R38 to R42): only a command and a reset
write them, and `step_tables_cases` and `step_ivValid_changes` say which. -/

namespace Sys2Proof.Machine

/-! ### The working tables -/

/-- The state that only commands and resets write: the configuration, the working tables, SCHED_VALID and IV_VALID are the
same in `s` and `t`. -/
structure KeepsCommandState (s t : State) : Prop where
  cfg : t.cfg = s.cfg
  tables : t.dp.tables = s.dp.tables
  schedValid : t.schedValid = s.schedValid
  ivValid : t.ivValid = s.ivValid

theorem serve_keepsCommandState (tr : Transaction) (s : State) : KeepsCommandState s (serve tr s) := by
  rcases serve_cases tr s with ⟨off, -, he⟩ | ⟨off, data, u, -, hu, he⟩ | ⟨off, data, -, -, he⟩ <;> rw [he]
  · exact ⟨rfl, rfl, rfl, rfl⟩
  · obtain ⟨-, loc, -, hw⟩ := busWrite_cases hu
    obtain ⟨hdp, hsched, hiv, -, -, -, hcfg, -⟩ := writeLocation_frame hw
    exact ⟨hcfg, congrArg Datapath.tables hdp, hsched, hiv⟩
  · exact ⟨rfl, rfl, rfl, rfl⟩

/-- A step is a reset, or completes the legal command the engine holds, or keeps what only these two write. -/
theorem step_reset_or_command_or_keeps {s t : State} (h : step s = .next t) :
    (s.events.head? = some .reset ∧ t = applyReset (popEvent s)) ∨
    (∃ c i, s.seq = .busy c ∧ decode c = .instr i ∧ exec i (popEvent s) = .next t) ∨
    KeepsCommandState s t := by
  rcases step_cases s with ⟨-, -, he⟩ | ⟨c, i, -, hc, hd, he⟩ | ⟨c, w, -, -, -, he⟩ | ⟨tr, -, he⟩ | ⟨hr, he⟩ <;>
    rw [he] at h
  · cases h
    exact .inr (.inr ⟨rfl, rfl, rfl, rfl⟩)
  · exact .inr (.inl ⟨c, i, hc, hd, h⟩)
  · cases h
    exact .inr (.inr ⟨rfl, rfl, rfl, rfl⟩)
  · cases h
    obtain ⟨hcfg, htab, hsched, hiv⟩ := serve_keepsCommandState tr (popEvent s)
    exact .inr (.inr ⟨hcfg, htab, hsched, hiv⟩)
  · cases h
    exact .inl ⟨hr, rfl⟩

/-- What a step does to the working tables: it is a reset, or completes a KEYSCHED with code 0, or keeps them (R38 to R40). -/
theorem step_tables_cases {s t : State} (h : step s = .next t) :
    (s.events.head? = some .reset ∧ t.schedValid = false) ∨
    (∃ c n, s.seq = .busy c ∧ decode c = .instr (.keysched n) ∧ 1 ≤ n ∧ n ≤ 56 ∧ t.err = .ok ∧ t.schedValid = true ∧
      t.cfg = s.cfg ∧ t.dp.tables = (derive s.cfg.init s.keyByte n).tables) ∨
    (t.cfg = s.cfg ∧ t.dp.tables = s.dp.tables ∧ t.schedValid = s.schedValid) := by
  rcases step_reset_or_command_or_keeps h with ⟨hr, rfl⟩ | ⟨c, i, hc, hd, he⟩ | hk
  · exact .inl ⟨hr, rfl⟩
  · have hcfg : t.cfg = s.cfg := (exec_cfg_inbuf_seq he).1
    rcases exec_tables_cases he with ⟨htab, hsched⟩ | ⟨n, rfl, h1, h56, herr, hsched, htab⟩
    · exact .inr (.inr ⟨hcfg, htab, hsched⟩)
    · exact .inr (.inl ⟨c, n, hc, hd, h1, h56, herr, hsched, hcfg, htab⟩)
  · exact .inr (.inr ⟨hk.cfg, hk.tables, hk.schedValid⟩)

/-- Settles O57, by the cases of `step_tables_cases`: after a reset SCHED_VALID is 0, after a KEYSCHED the key is KEYBUF, and
any other step keeps the tables with their key. -/
theorem stepKeepsScheduled : Obligations.StepKeepsScheduled := by
  unfold Obligations.StepKeepsScheduled
  refine ⟨fun h => (by cases h), fun s t hs hstep hv => ?_⟩
  rcases step_tables_cases hstep with ⟨-, hv0⟩ | ⟨c, n, -, -, h1, h56, -, -, hcfg, htab⟩ | ⟨hcfg, htab, hsched⟩
  · rw [hv0] at hv
    cases hv
  · exact ⟨s.keyByte, n, h1, h56, by rw [hcfg, htab]⟩
  · rw [hcfg, htab]
    exact hs (hsched ▸ hv)

/-- Settles O52: the three cases of `step_tables_cases` are the three alternatives. -/
theorem onlyKeyschedWritesTables : Obligations.OnlyKeyschedWritesTables := by
  unfold Obligations.OnlyKeyschedWritesTables
  intro s t hstep
  rcases step_tables_cases hstep with ⟨hr, -⟩ | ⟨c, n, hc, hd, h1, h56, -, -, -, htab⟩ | ⟨-, htab, -⟩
  · exact .inr (.inl hr)
  · exact .inr (.inr ⟨c, n, hc, hd, h1, h56, htab⟩)
  · exact .inl htab

/-! ### Completion and SCHED_VALID (R40, R123) -/

/-- Settles O8: a failure and a success both end in `finish` (R123). -/
theorem everyCommandCompletes : Obligations.EveryCommandCompletes := by
  unfold Obligations.EveryCommandCompletes
  intro i s
  rcases exec_cases i s with ⟨k, -, he⟩ | ⟨t, he, hf⟩
  · exact ⟨_, he, raiseError_done k s, raiseError_seq k s⟩
  · refine ⟨t, he, ?_, ?_⟩ <;> rw [hf]

/-- A KEYSCHED sets SCHED_VALID when its length is valid and keeps it otherwise. -/
theorem exec_keysched_schedValid {n : Nat} {s t : State} (h : exec (.keysched n) s = .next t) :
    t.schedValid = (s.schedValid || t.err == .ok) := by
  by_cases hn : n = 0 ∨ 56 < n
  · rw [exec_keysched_error s hn] at h
    cases h
    simp
  · rw [exec_keysched_ok s (by omega)] at h
    cases h
    simp

/-- Without a schedule the six cipher commands report NoSchedule, ahead of every other check (R40, R124). -/
theorem exec_noSchedule {i : Instr} {s : State} (hi : needsSchedule i = true) (hv : s.schedValid = false) :
    exec i s = .next (s.failedWith .noSchedule) := by
  have hsched : schedCheck s = some .noSchedule := schedCheck_eq_some.2 ⟨hv, rfl⟩
  have hmsg : messageCheck s = some .noSchedule := messageCheck_eq_some.2 (.inl ⟨hv, rfl⟩)
  cases i with
  | blkEnc => exact exec_blkEnc_error hsched
  | blkDec => exact exec_blkDec_error hsched
  | ecbEnc => exact exec_ecbEnc_error hmsg
  | ecbDec => exact exec_ecbDec_error hmsg
  | cbcEnc => exact exec_cbcEnc_error (cbcEncCheck_eq_some.2 (.inl hmsg))
  | cbcDec => exact exec_cbcDec_error (cbcDecCheck_eq_some.2 (.inl hmsg))
  | keysched n => cases hi
  | setIv n => cases hi
  | genIv => cases hi

/-- Without a schedule the P and S windows do not answer (R42). -/
theorem busRead_window_noSchedule {off : BitVec 16} {s : State} (hv : s.schedValid = false)
    (hw : WindowOffset off.toNat) : busRead off s = .busError := by
  cases hloc : locate s.cfg.msgMax off with
  | none => simp [busRead, hloc]
  | some loc =>
    obtain ⟨hoff, hex⟩ := locate_eq hloc
    have hgated : loc.gated = true := (gated_iff hex).2 (hoff ▸ hw)
    rw [busRead_eq hloc]
    simp [hgated, hv]

/-- Settles O50: the step clause is `step_tables_cases`, the gate is `exec_noSchedule` and `busRead_window_noSchedule`. -/
theorem schedValidRule : Obligations.SchedValidRule := by
  unfold Obligations.SchedValidRule
  refine ⟨rfl, fun n s t => exec_keysched_schedValid, fun s t hstep hne => ?_, fun i s => exec_noSchedule,
    fun off s => busRead_window_noSchedule⟩
  rcases step_tables_cases hstep with ⟨hr, hv⟩ | ⟨c, n, hc, hd, -, -, herr, hv, -, -⟩ | ⟨-, -, hsched⟩
  · exact .inl ⟨hr, hv⟩
  · exact .inr ⟨c, n, hc, hd, herr, hv⟩
  · exact absurd hsched hne

/-! ### IV_VALID (R41) -/

/-- A CBC_ENC that drew an IV holds one. -/
theorem exec_cbcEnc_drew_ivValid {s t : State} (h : exec .cbcEnc s = .next t) (hne : t.entDraws ≠ s.entDraws) :
    t.ivValid = true := by
  rcases exec_iv_cases h with ⟨-, -, hdraws⟩ | ⟨-, hv, -⟩
  · exact absurd hdraws hne
  · exact hv

/-- A step that changes IV_VALID is a reset, or completes one of the three commands that set it (R41). -/
theorem step_ivValid_changes {s t : State} (h : step s = .next t) (hne : t.ivValid ≠ s.ivValid) :
    (s.events.head? = some .reset ∧ t.ivValid = false) ∨
    (∃ c, s.seq = .busy c ∧ t.err = .ok ∧ t.ivValid = true ∧
      (decode c = .instr (.setIv 8) ∨ decode c = .instr .genIv ∨
       (decode c = .instr .cbcEnc ∧ t.entDraws = s.entDraws + 1))) := by
  rcases step_reset_or_command_or_keeps h with ⟨hr, rfl⟩ | ⟨c, i, hc, hd, he⟩ | hk
  · exact .inl ⟨hr, rfl⟩
  · rcases exec_iv_cases he with ⟨-, hv, -⟩ | ⟨herr, hv, rfl | rfl | ⟨rfl, hdraws⟩⟩
    · exact absurd hv hne
    · exact .inr ⟨c, hc, herr, hv, .inl hd⟩
    · exact .inr ⟨c, hc, herr, hv, .inr (.inl hd)⟩
    · exact .inr ⟨c, hc, herr, hv, .inr (.inr ⟨hd, hdraws⟩)⟩
  · exact absurd hk.ivValid hne

/-- Settles O51: the step clause is `step_ivValid_changes`. -/
theorem ivValidRule : Obligations.IvValidRule := by
  unfold Obligations.IvValidRule
  refine ⟨rfl, fun s t h => ?_, fun s t h => ?_, fun s t => exec_cbcEnc_drew_ivValid, fun s t => step_ivValid_changes⟩
  · rw [exec_setIv_ok] at h
    cases h
    rfl
  · rw [exec_genIv] at h
    cases h
    rfl

end Sys2Proof.Machine
end

section
/-! PROOFS. The registers on the bus (spec R26 to R31, R42): what each location reads, and reads back after a write, the STATUS
and CTRL words by number, and the constant tables. -/

namespace Sys2Proof.Machine

/-! ### What the host reads (R26, R42) -/

/-- An existing location is found at its offset: with `locate_eq`, the map and `Location.offset` are inverses. -/
theorem locate_of_offset {m : Nat} {off : BitVec 16} {loc : Location} (hex : loc.Exists m)
    (hoff : off.toNat = loc.offset) : locate m off = some loc := by
  have hlt := off.isLt
  unfold locate mapOffset
  cases loc
  case key | pwin | swin | inbuf | outbuf =>
    simp only [Location.offset, Location.Exists] at hex hoff
    simp (disch := omega) only [if_pos, if_neg, Option.some.injEq, Location.key.injEq, Location.pwin.injEq,
      Location.swin.injEq, Location.inbuf.injEq, Location.outbuf.injEq]
    omega
  all_goals
    simp only [hoff, Location.offset]
    rfl

/-- While idle an ungated location reads the word it holds, and a gated one does so under a schedule. -/
theorem busRead_idle {off : BitVec 16} {s : State} {loc : Location} (hidle : s.isBusy = false)
    (hloc : locate s.cfg.msgMax off = some loc) (hgate : loc.gated = true → s.schedValid = true) :
    busRead off s = .data (readLocation s loc) := by
  rw [busRead_eq hloc]
  cases hg : loc.gated
  · simp [hidle]
  · simp [hidle, hgate hg]

theorem subkey_eq_getElem (t : Tables) {i : Nat} (h : i < 18) : subkey t i = t.p[i] := by
  simp [subkey, h]

theorem sbox_eq_getElem (t : Tables) {k j : Nat} (hk : k < 4) (hj : j < 256) : sbox t k j = t.s[k][j] := by
  simp [sbox, hk, hj]

/-- Settles O40: each offset is that of its location (`locate_of_offset`), which is read by `busRead_idle`. -/
theorem registerReads : Obligations.RegisterReads := by
  unfold Obligations.RegisterReads
  intro s hseq
  have hidle := isBusy_idle hseq
  have plain {off : BitVec 16} {loc : Location} (hex : loc.Exists s.cfg.msgMax) (hoff : off.toNat = loc.offset)
      (hg : loc.gated = false) : busRead off s = .data (readLocation s loc) :=
    busRead_idle hidle (locate_of_offset hex hoff) (by simp [hg])
  refine ⟨plain (loc := .msglen) trivial rfl rfl, plain (loc := .outlen) trivial rfl rfl,
    plain (loc := .xl) trivial rfl rfl, plain (loc := .xr) trivial rfl rfl, fun hv => ⟨fun i hi => ?_, fun k j hk hj => ?_⟩⟩
  · have hoff : (BitVec.ofNat 16 (0x0100 + 4 * i)).toNat = (Location.pwin i).offset := by
      simp only [BitVec.toNat_ofNat, Location.offset]
      omega
    rw [← subkey_eq_getElem _ hi]
    exact busRead_idle hidle (locate_of_offset (loc := .pwin i) hi hoff) fun _ => hv
  · have hoff : (BitVec.ofNat 16 (0x1000 + 0x400 * k + 4 * j)).toNat = (Location.swin k j).offset := by
      simp only [BitVec.toNat_ofNat, Location.offset]
      omega
    rw [← sbox_eq_getElem _ hk hj]
    exact busRead_idle hidle (locate_of_offset (loc := .swin k j) ⟨hk, hj⟩ hoff) fun _ => hv

/-! ### STATUS and CTRL by number (R27 to R29, R37, R122) -/

theorem toNat_statusWord (s : State) : (statusWord s).toNat =
    s.isBusy.toNat + 2 * s.done.toNat + 4 * s.schedValid.toNat + 8 * s.ivValid.toNat + 256 * s.err.code.toNat := by
  show ((0#20 ++ s.err.code ++ 0#4 ++ BitVec.ofBool s.ivValid ++ BitVec.ofBool s.schedValid ++ BitVec.ofBool s.done ++
    BitVec.ofBool s.isBusy : BitVec (20 + 4 + 4 + 1 + 1 + 1 + 1))).toNat = _
  simp only [toNat_append_eq, BitVec.toNat_ofBool, BitVec.toNat_ofNat]
  omega

theorem toNat_ctrlWord (c : Ctrl) :
    (ctrlWord c).toNat = c.wordOrder.toNat + 2 * c.autoIv.toNat + 4 * c.irqEn.toNat := by
  show ((0#29 ++ BitVec.ofBool c.irqEn ++ BitVec.ofBool c.autoIv ++ BitVec.ofBool c.wordOrder :
    BitVec (29 + 1 + 1 + 1))).toNat = _
  simp only [toNat_append_eq, BitVec.toNat_ofBool, BitVec.toNat_ofNat]
  omega

/-- A bit of a word by number. -/
theorem toNat_getLsbD (w : Word) (i : Nat) : (w.getLsbD i).toNat = w.toNat / 2 ^ i % 2 := Nat.toNat_testBit _ _

@[simp] theorem ctrlOfWord_ctrlWord (c : Ctrl) : ctrlOfWord (ctrlWord c) = c := by
  obtain ⟨wo, ai, ie⟩ := c
  revert wo ai ie
  decide

theorem ctrlOfWord_and_seven (data : Word) : ctrlOfWord data = ctrlOfWord (data &&& 7) := by
  simp [ctrlOfWord]

/-- CTRL reads back the three bits that a write takes (R27, R37). -/
theorem ctrlWord_ctrlOfWord (data : Word) : ctrlWord (ctrlOfWord data) = data &&& 7 := by
  apply BitVec.eq_of_toNat_eq
  have hmask : (data &&& 7).toNat = data.toNat % 2 ^ 3 := Nat.and_two_pow_sub_one_eq_mod _ 3
  rw [toNat_ctrlWord, hmask]
  simp only [ctrlOfWord, toNat_getLsbD]
  omega

theorem code_le (k : Completion) : k.code.toNat ≤ 6 := by
  cases k <;> decide

/-- Settles O45: the two words by number, the mask of CTRL, and the codes of R122. -/
theorem statusAndCtrlLayout : Obligations.StatusAndCtrlLayout := by
  unfold Obligations.StatusAndCtrlLayout
  exact ⟨toNat_statusWord, fun c => ⟨toNat_ctrlWord c, ctrlOfWord_ctrlWord c⟩, ctrlOfWord_and_seven, rfl, rfl, rfl, rfl, rfl,
    rfl, rfl, code_le⟩

/-- Settles O44: offset 4 is STATUS, whose bit 1 is read by division. -/
theorem statusWrite : Obligations.StatusWrite := by
  unfold Obligations.StatusWrite
  refine fun s data => ⟨fun hseq => ?_, fun c hseq => ?_⟩
  · have hloc : locate s.cfg.msgMax 0x0004 = some .status := locate_of_offset trivial rfl
    have hbit : data.getLsbD 1 = true ↔ data.toNat / 2 % 2 = 1 := by
      rw [← Bool.toNat_eq_one, toNat_getLsbD, Nat.pow_one]
    rw [busWrite_eq (isBusy_idle hseq) hloc]
    simp only [writeLocation, writeStatus, hbit]
    rfl
  · simp [busWrite, isBusy_busy hseq]

/-! ### A written location reads back (R53, R57, R61) -/

/-- Only a write to CMD moves SEQ (R72). -/
theorem writeLocation_seq {data : Word} {s t : State} {loc : Location} (hne : loc ≠ .cmd)
    (h : writeLocation data s loc = some t) : t.seq = s.seq := by
  cases loc <;> simp only [writeLocation] at h <;> cases h
  case cmd => exact absurd rfl hne
  case status =>
    unfold writeStatus
    split <;> rfl
  all_goals rfl

/-- A window word whose four bytes are those of `data` is `data` (R53). -/
theorem windowWord_of_bytes {A : Nat → Byte} {w : Nat} {data : Word}
    (h : ∀ j, j < 4 → A (4 * w + j) = wordByte data j) : windowWord A w = data := by
  have h0 : A (4 * w) = wordByte data 0 := h 0 (by decide)
  rw [windowWord, h0, h 1 (by decide), h 2 (by decide), h 3 (by decide), be32_wordByte]

/-- Byte `j` of a key word just written (R36). -/
theorem setKeyWord_byte {w j : Nat} (hw : w < 14) (hj : j < 4) (data : Word) (k : Vector Byte 56) :
    (setKeyWord w data k)[4 * w + j]? = some (wordByte data j) := by
  have hlt : 4 * w + j < 56 := by omega
  interval_cases j <;> simp [setKeyWord, Vector.getElem?_setIfInBounds] <;> omega

/-- Byte `j` of a word just stored (R53). -/
theorem find_storeBytes_bytesBe {m : Memory} (hm : m.wf) (w : Nat) {j : Nat} (hj : j < 4) (data : Word) :
    (m.storeBytes (4 * w) (bytesBe data)).find (4 * w + j) = some (wordByte data j) := by
  rw [find_storeBytes _ _ _ _ hm, if_pos ⟨by omega, by simp [bytesBe]; omega⟩]
  interval_cases j <;> simp [bytesBe]

/-- A data location holds what was written to it. -/
theorem readLocation_writeLocation {m : Nat} {data : Word} {s t : State} {loc : Location} (hex : loc.Exists m)
    (hm : s.inbuf.wf) (hdata : loc ≠ .ctrl ∧ loc ≠ .status ∧ loc ≠ .cmd) (h : writeLocation data s loc = some t) :
    readLocation t loc = data := by
  obtain ⟨hctrl, hstatus, hcmd⟩ := hdata
  cases loc <;> simp only [writeLocation] at h <;> cases h
  case ctrl => exact absurd rfl hctrl
  case status => exact absurd rfl hstatus
  case cmd => exact absurd rfl hcmd
  case msglen => rfl
  case xl => rfl
  case xr => rfl
  case ivstage0 => exact blockHi_append _ _
  case ivstage1 => exact blockLo_append _ _
  case key w =>
    exact windowWord_of_bytes fun j hj => by simp only [State.keyByte, setKeyWord_byte hex hj]; rfl
  case inbuf w =>
    exact windowWord_of_bytes fun j hj => by simp only [State.inbufByte, find_storeBytes_bytesBe hm w hj]; rfl

/-- A writable location is not gated: the P and S windows are read-only (R58). -/
theorem writeLocation_gated {data : Word} {s t : State} {loc : Location} (h : writeLocation data s loc = some t) :
    loc.gated = false := by
  cases loc
  case pwin | swin => cases h
  all_goals rfl

/-- After a write to a location other than CMD, its offset reads the word it now holds. -/
theorem busRead_after_write {off : BitVec 16} {data : Word} {s t : State} {loc : Location} (hidle : s.isBusy = false)
    (hloc : locate s.cfg.msgMax off = some loc) (hne : loc ≠ .cmd) (h : writeLocation data s loc = some t) :
    busRead off t = .data (readLocation t loc) := by
  obtain ⟨-, -, -, -, -, -, hcfg, -⟩ := writeLocation_frame h
  refine busRead_idle ?_ (hcfg ▸ hloc) (by simp [writeLocation_gated h])
  rw [State.isBusy, writeLocation_seq hne h]
  exact hidle

/-- Settles O41: the offset locates what was written, and `readLocation_writeLocation` gives what it holds. -/
theorem readAfterWrite : Obligations.ReadAfterWrite := by
  unfold Obligations.ReadAfterWrite
  intro off data s t hm h
  obtain ⟨hidle, loc, hloc, hw⟩ := busWrite_cases h
  obtain ⟨hoff, hex⟩ := locate_eq hloc
  have ne_of_offset {l : Location} (hne : off.toNat ≠ l.offset) : loc ≠ l := fun he => hne (he ▸ hoff)
  refine ⟨fun h0 h4 h8 => ?_, fun h0 => ?_⟩
  · have hcmd : loc ≠ .cmd := ne_of_offset fun he => h8 (BitVec.eq_of_toNat_eq he)
    have hdata : loc ≠ .ctrl ∧ loc ≠ .status ∧ loc ≠ .cmd :=
      ⟨ne_of_offset fun he => h0 (BitVec.eq_of_toNat_eq he), ne_of_offset fun he => h4 (BitVec.eq_of_toNat_eq he), hcmd⟩
    rw [busRead_after_write hidle hloc hcmd hw, readLocation_writeLocation hex hm hdata hw]
  · subst h0
    have hctrl : locate s.cfg.msgMax 0x0000 = some .ctrl := locate_of_offset trivial rfl
    obtain rfl : Location.ctrl = loc := Option.some.inj (hctrl.symm.trans hloc)
    rw [busRead_after_write hidle hloc (by decide) hw]
    cases hw
    exact congrArg Response.data (ctrlWord_ctrlOfWord data)

/-! ### The constant tables (R46) -/

/-- Settles O49: the reset state's tables are literals (log 7), so the kernel evaluates the six folds. -/
theorem constantTableCheckValues : Obligations.ConstantTableCheckValues := by
  unfold Obligations.ConstantTableCheckValues
  decide +kernel

end Sys2Proof.Machine
end

section
/-! PROOFS. The host bus (spec 20_memory.md R42, R49, R53, R57 to R59): when a transaction fails, what can be read while busy, the
byte order of the word windows, and what reads and writes leave unchanged. -/

namespace Sys2Proof.Machine

/-! ### When a transaction returns `bus_error` (R49) -/

/-- A read fails exactly at an offset without a location, or at a location closed to the host by BUSY or by SCHED_VALID. -/
theorem busRead_eq_busError_iff {off : BitVec 16} {s : State} : busRead off s = .busError ↔
    (off.toNat % 4 ≠ 0 ∨ ¬ MappedOffset s.cfg.msgMax off.toNat ∨ ((∃ c, s.seq = .busy c) ∧ ¬ BusyReadableOffset off.toNat) ∨
     (s.schedValid = false ∧ WindowOffset off.toNat)) := by
  rw [← or_assoc, ← locate_eq_none]
  cases hloc : locate s.cfg.msgMax off with
  | none => simp [busRead, hloc]
  | some loc =>
    obtain ⟨hoff, hex⟩ := locate_eq hloc
    have hclosed : (s.isBusy && !loc.readableWhileBusy) = true ↔ s.isBusy = true ∧ ¬ loc.readableWhileBusy = true := by simp
    have hgate : (loc.gated && !s.schedValid) = true ↔ s.schedValid = false ∧ loc.gated = true := by simp [and_comm]
    rw [busRead_eq hloc, hoff, ← isBusy_iff, ← readableWhileBusy_iff, ← gated_iff hex]
    simp only [hclosed, hgate, reduceCtorEq, false_or]
    split_ifs with hc hg
    · exact iff_of_true rfl (.inl hc)
    · exact iff_of_true rfl (.inr hg)
    · exact iff_of_false (by simp) (not_or.2 ⟨hc, hg⟩)

/-- A write fails exactly at an offset without a location, at a read-only location, or while busy. -/
theorem busWrite_eq_none_iff {off : BitVec 16} {data : Word} {s : State} : busWrite off data s = none ↔
    (off.toNat % 4 ≠ 0 ∨ ¬ MappedOffset s.cfg.msgMax off.toNat ∨ ReadOnlyOffset s.cfg.msgMax off.toNat ∨
     (∃ c, s.seq = .busy c)) := by
  rw [← or_assoc, ← locate_eq_none, ← isBusy_iff]
  cases hbusy : s.isBusy with
  | true => simp [busWrite, hbusy]
  | false =>
    cases hloc : locate s.cfg.msgMax off with
    | none => simp [busWrite, hloc]
    | some loc =>
      obtain ⟨hoff, hex⟩ := locate_eq hloc
      rw [busWrite_eq hbusy hloc, writeLocation_eq_none hex, hoff]
      simp

/-- A transaction answered `bus_error` changes no state of the engine. -/
theorem serve_busError {tr : Transaction} {s : State} (h : (serve tr s).responses = .busError :: s.responses) :
    serve tr s = respond .busError s := by
  rcases serve_cases tr s with ⟨off, -, he⟩ | ⟨off, data, u, -, hu, he⟩ | ⟨off, data, -, -, he⟩
  · rw [he] at h ⊢
    rw [(List.cons.inj h).1]
  · rw [he] at h
    cases (List.cons.inj h).1
  · exact he

/-- Settles O37: one lemma for reads, one for writes, one for the answered transaction. -/
theorem busErrorConditions : Obligations.BusErrorConditions := by
  unfold Obligations.BusErrorConditions
  exact fun s => ⟨fun off => busRead_eq_busError_iff, fun off data => busWrite_eq_none_iff, fun tr => serve_busError⟩

/-! ### Host accesses while busy (R59) -/

/-- A register that can be read while busy answers with the word it holds, busy or idle. -/
theorem busRead_readableWhileBusy {off : BitVec 16} {s : State} {loc : Location}
    (hloc : locate s.cfg.msgMax off = some loc) (hread : loc.readableWhileBusy = true) :
    busRead off s = .data (readLocation s loc) := by
  have hgated : loc.gated = false := by
    cases loc
    case pwin | swin => cases hread
    all_goals rfl
  simp [busRead_eq hloc, hread, hgated]

/-- The four registers of R59 read the same way in every state. -/
theorem busRead_ctrl_status_cmd_param (s : State) :
    busRead 0x0000 s = .data (ctrlWord s.ctrl) ∧ busRead 0x0004 s = .data (statusWord s) ∧
    busRead 0x0008 s = .data s.cmd ∧ busRead 0x001C s = .data (BitVec.ofNat 32 s.cfg.msgMax) :=
  ⟨busRead_readableWhileBusy (locate_of_offset (loc := .ctrl) trivial rfl) rfl,
    busRead_readableWhileBusy (locate_of_offset (loc := .status) trivial rfl) rfl,
    busRead_readableWhileBusy (locate_of_offset (loc := .cmd) trivial rfl) rfl,
    busRead_readableWhileBusy (locate_of_offset (loc := .param) trivial rfl) rfl⟩

/-- Settles O38: the four registers are read as in every state, and the rest is the busy case of R49. -/
theorem accessWhileBusy : Obligations.AccessWhileBusy := by
  unfold Obligations.AccessWhileBusy
  intro s c hbusy
  obtain ⟨hctrl, hstatus, hcmd, hparam⟩ := busRead_ctrl_status_cmd_param s
  refine ⟨hctrl, hstatus, hcmd, hparam, fun t _ => busRead_ctrl_status_cmd_param t, fun off h0 h4 h8 h1c => ?_,
    fun off data => busWrite_eq_none_iff.2 (.inr (.inr (.inr ⟨c, hbusy⟩)))⟩
  have hother : ¬ BusyReadableOffset off.toNat := by
    rintro (h | h | h | h)
    · exact h0 (BitVec.eq_of_toNat_eq h)
    · exact h4 (BitVec.eq_of_toNat_eq h)
    · exact h8 (BitVec.eq_of_toNat_eq h)
    · exact h1c (BitVec.eq_of_toNat_eq h)
  exact busRead_eq_busError_iff.2 (.inr (.inr (.inl ⟨⟨c, hbusy⟩, hother⟩)))

/-! ### Which location an access reaches -/

/-- A located offset that is the offset of `l` reaches `l`, where `l` is a location of the map for some capacity `m'`: the
offset itself shows that it is one for this capacity. -/
theorem locate_unique {m m' : Nat} {off : BitVec 16} {loc l : Location} (h : locate m off = some loc) (hex : l.Exists m')
    (hoff : off.toNat = l.offset) : loc = l := by
  have hmapped : MappedOffset m off.toNat := by
    by_contra hn
    rw [locate_eq_none.2 (.inr hn)] at h
    cases h
  have hl : l.Exists m := by
    cases l
    case inbuf | outbuf =>
      simp only [hoff, MappedOffset, Location.offset, Location.Exists] at hmapped hex ⊢
      omega
    all_goals exact hex
  exact Option.some.inj (h.symm.trans (locate_of_offset hl hoff))

/-- A read that is answered gives the word of the location at its offset. -/
theorem readLocation_of_busRead {off : BitVec 16} {s : State} {v : Word} {m' : Nat} {l : Location}
    (h : busRead off s = .data v) (hex : l.Exists m') (hoff : off.toNat = l.offset) : readLocation s l = v := by
  cases hloc : locate s.cfg.msgMax off with
  | none => simp [busRead, hloc] at h
  | some loc =>
    obtain rfl := locate_unique hloc hex hoff
    rw [busRead_eq hloc] at h
    split at h
    · cases h
    · split at h
      · cases h
      · exact Response.data.inj h

/-- A write that is answered `ok` leaves its word in the data location at its offset. -/
theorem readLocation_of_busWrite {off : BitVec 16} {data : Word} {s t : State} {m' : Nat} {l : Location} (hm : s.inbuf.wf)
    (h : busWrite off data s = some t) (hex : l.Exists m') (hoff : off.toNat = l.offset)
    (hdata : l ≠ .ctrl ∧ l ≠ .status ∧ l ≠ .cmd) : readLocation t l = data := by
  obtain ⟨-, loc, hloc, hw⟩ := busWrite_cases h
  obtain rfl := locate_unique hloc hex hoff
  exact readLocation_writeLocation hex hm hdata hw

/-! ### The bytes of a word window (R34, R35, R53) -/

theorem packsBigEndian_windowWord (A : Nat → Byte) (w : Nat) : PacksBigEndian A w (windowWord A w) := toNat_be32 _ _ _ _

/-- Byte `j` of a window word is byte `4w + j` of its array. -/
theorem wordByte_windowWord (A : Nat → Byte) (w : Nat) {j : Nat} (hj : j < 4) :
    wordByte (windowWord A w) j = A (4 * w + j) := by
  obtain ⟨h0, h1, h2, h3⟩ := wordByte_be32 (A (4 * w)) (A (4 * w + 1)) (A (4 * w + 2)) (A (4 * w + 3))
  interval_cases j
  · exact h0
  · exact h1
  · exact h2
  · exact h3

/-- Two arrays with the same four bytes have the same window word. -/
theorem windowWord_congr {A B : Nat → Byte} {w : Nat} (h : ∀ j, j < 4 → A (4 * w + j) = B (4 * w + j)) :
    windowWord A w = windowWord B w :=
  windowWord_of_bytes fun j hj => (h j hj).trans (wordByte_windowWord B w hj).symm

/-- A window that holds `data` has the bytes of `data`, by number. -/
theorem toNat_byte_of_windowWord {A : Nat → Byte} {w j : Nat} {data : Word} (h : windowWord A w = data) (hj : j < 4) :
    (A (4 * w + j)).toNat = data.toNat / 2 ^ (24 - 8 * j) % 2 ^ 8 := by
  rw [← wordByte_windowWord A w hj, h, toNat_wordByte]

theorem windowWord_blockByte_zero (b : Block) : windowWord (blockByte b) 0 = blockHi b :=
  (blockHi_append _ _).symm.trans (congrArg blockHi (be32_blockByte b))

theorem windowWord_blockByte_one (b : Block) : windowWord (blockByte b) 1 = blockLo b :=
  (blockLo_append _ _).symm.trans (congrArg blockLo (be32_blockByte b))

/-- IVw read by the host is word `w` of IVREG. -/
theorem windowWord_of_read_iv {off : BitVec 16} {s : State} {v : Word} {w : Nat} (h : busRead off s = .data v) (hw : w < 2)
    (hoff : off.toNat = 0x0020 + 4 * w) : windowWord (blockByte s.ivreg) w = v := by
  interval_cases w
  · exact (windowWord_blockByte_zero _).trans (readLocation_of_busRead (l := .iv0) (m' := 0) h trivial hoff)
  · exact (windowWord_blockByte_one _).trans (readLocation_of_busRead (l := .iv1) (m' := 0) h trivial hoff)

/-- IVSTAGEw read by the host is word `w` of IVSTAGE. -/
theorem windowWord_of_read_ivstage {off : BitVec 16} {s : State} {v : Word} {w : Nat} (h : busRead off s = .data v)
    (hw : w < 2) (hoff : off.toNat = 0x0028 + 4 * w) : windowWord (blockByte s.ivstage) w = v := by
  interval_cases w
  · exact (windowWord_blockByte_zero _).trans (readLocation_of_busRead (l := .ivstage0) (m' := 0) h trivial hoff)
  · exact (windowWord_blockByte_one _).trans (readLocation_of_busRead (l := .ivstage1) (m' := 0) h trivial hoff)

/-- INBUFw read by the host is word `w` of INBUF. -/
theorem windowWord_of_read_inbuf {off : BitVec 16} {s : State} {v : Word} {w : Nat} (h : busRead off s = .data v)
    (hw : w < 0x1000) (hoff : off.toNat = 0x4000 + 4 * w) : windowWord s.inbufByte w = v :=
  readLocation_of_busRead (l := .inbuf w) (m' := 0x4000) h ⟨by omega, by omega⟩ hoff

/-- A write to IVSTAGEw leaves its word in word `w` of IVSTAGE. -/
theorem windowWord_of_write_ivstage {off : BitVec 16} {data : Word} {s t : State} {w : Nat} (hm : s.inbuf.wf)
    (h : busWrite off data s = some t) (hw : w < 2) (hoff : off.toNat = 0x0028 + 4 * w) :
    windowWord (blockByte t.ivstage) w = data := by
  interval_cases w
  · exact (windowWord_blockByte_zero _).trans
      (readLocation_of_busWrite (l := .ivstage0) (m' := 0) hm h trivial hoff (by decide))
  · exact (windowWord_blockByte_one _).trans
      (readLocation_of_busWrite (l := .ivstage1) (m' := 0) hm h trivial hoff (by decide))

/-- Word `k` of block `b` of an array is word `2b + k` of the array. -/
theorem windowWord_blockAt (A : Nat → Byte) (b : Nat) {k : Nat} (hk : k < 2) :
    windowWord (blockByte (blockAt A (8 * b))) k = windowWord A (2 * b + k) :=
  windowWord_of_bytes fun j hj => by
    have hindex : 8 * b + (4 * k + j) = 4 * (2 * b + k) + j := by omega
    rw [blockByte_blockAt _ _ _ (by omega), hindex, wordByte_windowWord _ _ hj]

/-- A block below MSGLEN is two words of INBUF under the standard word order (R94, R97). -/
theorem b2h_messageBlock {s : State} {b : Nat} (h : 8 * b + 8 ≤ s.msglen.toNat) :
    b2h (s.messageBlock b) false = (windowWord s.inbufByte (2 * b), windowWord s.inbufByte (2 * b + 1)) := by
  have word {k : Nat} (hk : k < 2) :
      windowWord (blockByte (s.messageBlock b)) k = windowWord s.inbufByte (2 * b + k) := by
    rw [State.messageBlock, windowWord_blockAt _ _ hk]
    exact windowWord_congr fun j hj => if_pos (by omega)
  exact Prod.ext (word (k := 0) (by decide)) (word (k := 1) (by decide))

/-- Settles O39: each window is a `windowWord` of its array, before a read and after a write. -/
theorem wordWindowsAreBigEndian : Obligations.WordWindowsAreBigEndian := by
  unfold Obligations.WordWindowsAreBigEndian
  refine ⟨fun s off v h w => ?_, fun s t off data hm h w j hj => ?_, fun s b l r hlen hb hl hr => ?_⟩
  · have packs {A : Nat → Byte} (hA : windowWord A w = v) : PacksBigEndian A w v := hA ▸ packsBigEndian_windowWord A w
    exact ⟨fun hw hoff => packs (readLocation_of_busRead (l := .key w) (m' := 0) h hw hoff),
      fun hw hoff => packs (windowWord_of_read_iv h hw hoff),
      fun hw hoff => packs (windowWord_of_read_ivstage h hw hoff),
      fun hw hoff => packs (windowWord_of_read_inbuf h hw hoff),
      fun hoff => packs (readLocation_of_busRead (l := .outbuf w) (m' := 4 * w + 1) h (Nat.lt_succ_self _) hoff)⟩
  · exact ⟨fun hw hoff => toNat_byte_of_windowWord
        (readLocation_of_busWrite (l := .key w) (m' := 0) hm h hw hoff (by simp)) hj,
      fun hw hoff => toNat_byte_of_windowWord (windowWord_of_write_ivstage hm h hw hoff) hj,
      fun hw hoff => toNat_byte_of_windowWord
        (readLocation_of_busWrite (l := .inbuf w) (m' := 0x4000) hm h ⟨by omega, by omega⟩ hoff (by simp)) hj⟩
  · have offset {w : Nat} (hw : w < 0x1000) : (BitVec.ofNat 16 (0x4000 + 4 * w)).toNat = 0x4000 + 4 * w := by
      rw [BitVec.toNat_ofNat]
      omega
    rw [b2h_messageBlock hlen, windowWord_of_read_inbuf hl (by omega) (offset (by omega)),
      windowWord_of_read_inbuf hr (by omega) (offset (by omega))]

/-! ### What a write leaves unchanged (R57, R61) -/

/-- A key word written leaves the bytes of the other key words (R36). -/
theorem setKeyWord_byte_ne {w i : Nat} (hi : i / 4 ≠ w) (data : Word) (k : Vector Byte 56) :
    (setKeyWord w data k)[i]? = k[i]? := by
  unfold setKeyWord
  iterate 4 rw [Vector.getElem?_setIfInBounds_ne (by omega)]

/-- A word stored leaves the bytes of the other words (R53). -/
theorem find_storeBytes_bytesBe_ne {m : Memory} (hm : m.wf) {w i : Nat} (hi : i / 4 ≠ w) (data : Word) :
    (m.storeBytes (4 * w) (bytesBe data)).find i = m.find i := by
  rw [find_storeBytes _ _ _ _ hm, if_neg]
  simp only [bytesBe, List.length_cons, List.length_nil]
  omega

/-- A write to a location other than CMD leaves the word of every other location: a location that reads none of the fields
written reads the same by `rfl`, and `l = loc` is excluded. -/
theorem readLocation_writeLocation_ne {data : Word} {s t : State} {loc l : Location} (hm : s.inbuf.wf) (hcmd : loc ≠ .cmd)
    (hne : l ≠ loc) (h : writeLocation data s loc = some t) : readLocation t l = readLocation s l := by
  cases loc <;> simp only [writeLocation] at h <;> cases h
  case cmd => exact absurd rfl hcmd
  case ctrl | msglen | xl | xr => cases l <;> trivial
  case status =>
    unfold writeStatus
    split
    · cases l <;> trivial
    · rfl
  case ivstage0 =>
    cases l
    case ivstage1 => exact blockLo_append _ _
    all_goals trivial
  case ivstage1 =>
    cases l
    case ivstage0 => exact blockHi_append _ _
    all_goals trivial
  case key w =>
    cases l
    case key w' =>
      have hw : w' ≠ w := fun he => hne (he ▸ rfl)
      exact windowWord_congr fun j hj => by simp only [State.keyByte, setKeyWord_byte_ne (show (4 * w' + j) / 4 ≠ w by omega)]
    all_goals rfl
  case inbuf w =>
    cases l
    case inbuf w' =>
      have hw : w' ≠ w := fun he => hne (he ▸ rfl)
      exact windowWord_congr fun j hj => by
        simp only [State.inbufByte, find_storeBytes_bytesBe_ne hm (show (4 * w' + j) / 4 ≠ w by omega)]
    all_goals rfl

/-- A read depends on the map, BUSY, SCHED_VALID and the word of the location only. -/
theorem busRead_congr {off : BitVec 16} {s t : State} (hcfg : t.cfg = s.cfg) (hseq : t.seq = s.seq)
    (hsched : t.schedValid = s.schedValid)
    (hread : ∀ l, locate s.cfg.msgMax off = some l → readLocation t l = readLocation s l) : busRead off t = busRead off s := by
  have hbusy : t.isBusy = s.isBusy := by rw [State.isBusy, hseq, State.isBusy]
  cases hloc : locate s.cfg.msgMax off with
  | none => simp only [busRead, hcfg, hloc]
  | some l => rw [busRead_eq hloc, busRead_eq (hcfg ▸ hloc), hbusy, hsched, hread l hloc]

/-- Settles O42: another offset is another location (`locate_inj`), whose word the write leaves. -/
theorem writeLeavesOtherLocations : Obligations.WriteLeavesOtherLocations := by
  unfold Obligations.WriteLeavesOtherLocations
  intro off off' data s t hm h8 hne h
  obtain ⟨-, loc, hloc, hw⟩ := busWrite_cases h
  obtain ⟨-, hsched, -, -, -, -, hcfg, -⟩ := writeLocation_frame hw
  have hcmd : loc ≠ .cmd := by
    rintro rfl
    exact h8 (BitVec.eq_of_toNat_eq (locate_eq hloc).1)
  refine busRead_congr hcfg (writeLocation_seq hcmd hw) hsched fun l hl => ?_
  exact readLocation_writeLocation_ne hm hcmd (fun he => hne (locate_inj (he ▸ hl) hloc)) hw

/-! ### What a read leaves unchanged (R57) -/

/-- A step whose next event is a transaction performs it. -/
theorem step_bus {s : State} {tr : Transaction} {rest : List Event} (h : s.events = .bus tr :: rest) :
    step s = .next (serve tr { s with events := rest }) := by
  simp [step, nextMove, popEvent, h]

/-- No read sees the pending events. -/
theorem busRead_events (off : BitVec 16) (s : State) (events : List Event) :
    busRead off { s with events := events } = busRead off s :=
  busRead_congr rfl rfl rfl fun l _ => by cases l <;> rfl

/-- Settles O43: the step serves the read, which only records its answer. -/
theorem readsHaveNoSideEffects : Obligations.ReadsHaveNoSideEffects := by
  unfold Obligations.ReadsHaveNoSideEffects
  intro off s rest h
  rw [step_bus h, serve, busRead_events]
  rfl

end Sys2Proof.Machine
end

section
/-! PROOFS. The command word (spec 30_encoding.md R67 to R73): `decode` and `encode` by their fields OPCODE and ARG, the two round
trips, and which words are legal. -/

namespace Sys2Proof

open Laws.EncodedFields (opcode arg)

/-! ### Encoder and decoder by field (R67 to R70) -/

/-- A command is encoded as its OPCODE and ARG, with RSVD = 0. -/
theorem encode_eq_commandWord (i : Instr) : encode i = commandWord (BitVec.ofNat 8 (arg i)) (opcode i) := by
  cases i <;> rfl

/-- A command has an encoding exactly when its ARG fits the field (R76). -/
theorem wellFormed_iff_arg_lt (i : Instr) : i.wellFormed = true ↔ arg i < 256 := by
  cases i <;> simp [Instr.wellFormed, arg]

theorem decodeNoArg_eq_instr_iff {i j : Instr} {a : Byte} : decodeNoArg j a = .instr i ↔ j = i ∧ a.toNat = 0 := by
  unfold decodeNoArg
  split
  · next h => simp [h]
  · next h => simp [show a.toNat ≠ 0 from fun h0 => h (BitVec.eq_of_toNat_eq h0)]

/-- The opcode map, read backwards: a command is found under its own OPCODE and ARG only (R69). -/
theorem decodeOpcode_eq_instr_iff {o a : Byte} {i : Instr} :
    decodeOpcode o a = .instr i ↔ o = opcode i ∧ a.toNat = arg i := by
  constructor
  · intro h
    unfold decodeOpcode at h
    split_ifs at h with hkey hset
    · cases h
      exact ⟨hkey, rfl⟩
    · cases h
      exact ⟨hset, rfl⟩
    all_goals
      obtain ⟨rfl, ha⟩ := decodeNoArg_eq_instr_iff.1 h
      exact ⟨by assumption, ha⟩
  · rintro ⟨rfl, ha⟩
    cases i with
    | keysched n => exact congrArg (fun n => Decoded.instr (.keysched n)) ha
    | setIv n => exact congrArg (fun n => Decoded.instr (.setIv n)) ha
    | _ => exact decodeNoArg_eq_instr_iff.2 ⟨rfl, ha⟩

/-- The commands of the decoder by field (R70). -/
theorem decode_eq_instr_iff {c : Word} {i : Instr} :
    decode c = .instr i ↔ rsvdField c = 0#16 ∧ opcodeField c = opcode i ∧ (argField c).toNat = arg i := by
  unfold decode
  split
  · next h => simp [h]
  · next h => rw [decodeOpcode_eq_instr_iff, and_iff_right (not_not.1 h)]

/-! ### The round trips -/

/-- Settles O2: the fields of `encode i` are those that `decode_eq_instr_iff` asks for. -/
theorem decodeEncode : Obligations.DecodeEncode := by
  unfold Obligations.DecodeEncode
  intro i hi
  have harg : arg i < 256 := (wellFormed_iff_arg_lt i).1 hi
  rw [encode_eq_commandWord, decode_eq_instr_iff]
  simp [Nat.mod_eq_of_lt harg]

/-- Settles O3: a decodable word has RSVD = 0, so its other two fields, those of the command, put it together again. -/
theorem encodeDecode : Obligations.EncodeDecode := by
  unfold Obligations.EncodeDecode
  intro c i h
  obtain ⟨hrsvd, hop, harg⟩ := decode_eq_instr_iff.1 h
  constructor
  · rw [wellFormed_iff_arg_lt, ← harg]
    exact (argField c).isLt
  · rw [encode_eq_commandWord, ← hop, ← harg, BitVec.ofNat_toNat, BitVec.setWidth_eq]
    exact commandWord_of_fields hrsvd

/-- A command word by number, for an ARG that fits its field. -/
theorem ofNat_eq_commandWord {n : Nat} (hn : n < 256) (o : Byte) :
    BitVec.ofNat 32 (n * 0x100 + o.toNat) = commandWord (BitVec.ofNat 8 n) o := by
  apply BitVec.eq_of_toNat_eq
  rw [toNat_commandWord, BitVec.toNat_ofNat, BitVec.toNat_ofNat]
  have := o.isLt
  omega

/-- Settles O1: each word of the map is the encoding of its command. -/
theorem opcodeMapWordsDecode : Obligations.OpcodeMapWordsDecode := by
  unfold Obligations.OpcodeMapWordsDecode
  refine ⟨fun n hn => ?_, fun n hn => ?_, decodeEncode .genIv rfl, decodeEncode .blkEnc rfl, decodeEncode .blkDec rfl,
    decodeEncode .ecbEnc rfl, decodeEncode .ecbDec rfl, decodeEncode .cbcEnc rfl, decodeEncode .cbcDec rfl⟩
  · exact (congrArg decode (ofNat_eq_commandWord hn 0x01)).trans (decodeEncode (.keysched n) (decide_eq_true hn))
  · exact (congrArg decode (ofNat_eq_commandWord hn 0x02)).trans (decodeEncode (.setIv n) (decide_eq_true hn))

/-! ### The legal words (R70) -/

/-- The fields of the decoder by number. -/
theorem decode_eq_instr_iff_toNat {c : Word} {i : Instr} : decode c = .instr i ↔
    c.toNat / 2 ^ 16 = 0 ∧ c.toNat % 2 ^ 8 = (opcode i).toNat ∧ c.toNat / 2 ^ 8 % 2 ^ 8 = arg i := by
  rw [decode_eq_instr_iff, ← toNat_rsvdField, ← toNat_opcodeField, ← toNat_argField, BitVec.toNat_inj]
  exact and_congr_left fun _ => BitVec.toNat_inj.symm

/-- The OPCODE and ARG numbers of the opcode map: ARG is free for KEYSCHED and SET_IV, and 0 for the others (R69, R70). -/
theorem exists_opcode_arg_iff {o a : Nat} : (∃ i, o = (opcode i).toNat ∧ a = arg i) ↔
    o ∈ [0x01, 0x02, 0x03, 0x10, 0x11, 0x20, 0x21, 0x22, 0x23] ∧
      (o ∈ [0x03, 0x10, 0x11, 0x20, 0x21, 0x22, 0x23] → a = 0) := by
  constructor
  · rintro ⟨i, rfl, rfl⟩
    cases i <;> simp [opcode, arg]
  · rintro ⟨ho, ha⟩
    simp only [List.mem_cons, List.not_mem_nil, or_false] at ho
    rcases ho with rfl | rfl | rfl | rfl | rfl | rfl | rfl | rfl | rfl
    · exact ⟨.keysched a, rfl, rfl⟩
    · exact ⟨.setIv a, rfl, rfl⟩
    · exact ⟨.genIv, rfl, ha (by decide)⟩
    · exact ⟨.blkEnc, rfl, ha (by decide)⟩
    · exact ⟨.blkDec, rfl, ha (by decide)⟩
    · exact ⟨.ecbEnc, rfl, ha (by decide)⟩
    · exact ⟨.ecbDec, rfl, ha (by decide)⟩
    · exact ⟨.cbcEnc, rfl, ha (by decide)⟩
    · exact ⟨.cbcDec, rfl, ha (by decide)⟩

/-- Which words are legal, by number. -/
theorem decodable_iff (c : Word) : (∃ i, decode c = .instr i) ↔
    (c.toNat / 2 ^ 16 = 0 ∧
     c.toNat % 2 ^ 8 ∈ [0x01, 0x02, 0x03, 0x10, 0x11, 0x20, 0x21, 0x22, 0x23] ∧
     (c.toNat % 2 ^ 8 ∈ [0x03, 0x10, 0x11, 0x20, 0x21, 0x22, 0x23] → c.toNat / 2 ^ 8 % 2 ^ 8 = 0)) := by
  rw [← exists_opcode_arg_iff, ← exists_and_left]
  exact exists_congr fun _ => decode_eq_instr_iff_toNat

end Sys2Proof
end

section
/-! PROOFS. The life of a command word (spec 30_encoding.md R70, R72, R73): the write to CMD that offers it, and the engine's turn
that runs it. -/

namespace Sys2Proof.Machine

/-! ### The engine's turn (R73, R123) -/

theorem runCommand_legal {c : Word} {i : Instr} (h : decode c = .instr i) (s : State) : runCommand c s = exec i s := by
  rw [runCommand, h]

theorem runCommand_illegal {c : Word} (h : ∀ i, decode c ≠ .instr i) (s : State) :
    runCommand c s = .next (raiseError .illegalCommand s) := by
  unfold runCommand
  split
  · next i hd => exact absurd hd (h i)
  · rfl

/-- Every command word, legal or not, completes when it runs. -/
theorem runCommand_completes (c : Word) (s : State) : ∃ u, runCommand c s = .next u ∧ u.seq = .idle ∧ u.done = true := by
  unfold runCommand
  split
  · next i _ =>
    rcases exec_cases i s with ⟨k, -, hk⟩ | ⟨u, hu, hf⟩
    · exact ⟨_, hk, rfl, rfl⟩
    · exact ⟨u, hu, by rw [hf], by rw [hf]⟩
  · exact ⟨_, rfl, rfl, rfl⟩

/-- With no event pending, a busy engine runs its command (log 1). -/
theorem step_busy_of_no_event {c : Word} {s : State} (hc : s.seq = .busy c) (h : s.events = []) :
    step s = runCommand c s := by
  simp only [step, nextMove, h, sequencerTurn, hc]

/-- On the engine's turn, a busy engine runs its command. -/
theorem step_busy_of_engine {c : Word} {s : State} {rest : List Event} (hc : s.seq = .busy c)
    (h : s.events = .engine :: rest) : step s = runCommand c { s with events := rest } := by
  simp only [step, nextMove, h, sequencerTurn, popEvent, hc, List.tail_cons]

/-- Settles O6: on its turn the engine runs the word it holds, which is `exec` of the decoded command. -/
theorem stepRunsDecodedCommand : Obligations.StepRunsDecodedCommand := by
  unfold Obligations.StepRunsDecodedCommand
  intro c i s hc hd
  exact ⟨fun h => (step_busy_of_no_event hc h).trans (runCommand_legal hd _),
    fun rest h => (step_busy_of_engine hc h).trans (runCommand_legal hd _)⟩

theorem decode_tableWord {nbits w : Nat} {i : Instr} (h : decodeTableWord nbits w = some i) :
    decode (tableWord nbits w) = .instr i := by
  unfold decodeTableWord at h
  split at h
  · next hd => rw [hd, Option.some.inj h]
  · cases h

/-- Settles O7: the state with the word placed is busy with it, and the engine's turn is its next event. -/
theorem placedWordRunsNext : Obligations.PlacedWordRunsNext := by
  unfold Obligations.PlacedWordRunsNext
  intro s nbits w i h
  have hturn : (s.withFetchWord nbits w).events = .engine :: s.events := rfl
  exact (step_busy_of_engine rfl hturn).trans (runCommand_legal (decode_tableWord h) _)

/-! ### The write to CMD (R70, R72) -/

/-- CMD is at offset 8 whatever MSG_MAX is (R26). -/
theorem locate_cmd (m : Nat) : locate m 0x0008 = some .cmd := locate_of_offset trivial rfl

/-- An idle engine accepts every word, legal or not. -/
theorem busWrite_cmd_idle (c : Word) {s : State} (h : s.seq = .idle) : busWrite 0x0008 c s = some (accept c s) := by
  rw [busWrite_eq (isBusy_idle h) (locate_cmd _), writeLocation]

theorem busWrite_busy {d : Word} {s : State} (h : s.seq = .busy d) (off : BitVec 16) (data : Word) :
    busWrite off data s = none :=
  busWrite_eq_none_iff.2 (.inr (.inr (.inr ⟨d, h⟩)))

/-- Settles O4: legality is `decodable_iff`; acceptance does not look at the word, and running it does. -/
theorem legalCommandWords : Obligations.LegalCommandWords := by
  unfold Obligations.LegalCommandWords
  refine ⟨decodable_iff, fun c s h => busWrite_cmd_idle c h, fun c s hc hill => ⟨fun h => ?_, fun rest h => ?_⟩⟩
  · exact (step_busy_of_no_event hc h).trans (runCommand_illegal hill _)
  · exact (step_busy_of_engine hc h).trans (runCommand_illegal hill _)

/-- Settles O5: the write is served at once, and whatever word it put in CMD completes on the engine's turn. -/
theorem commandAcceptance : Obligations.CommandAcceptance := by
  unfold Obligations.CommandAcceptance
  refine ⟨fun c s rest hidle h => ⟨_, ?_, rfl, ?_⟩, fun c d s rest hbusy h => ?_⟩
  · rw [step_bus h, serve, busWrite_cmd_idle c (s := { s with events := rest }) hidle]
    rfl
  · rw [step_busy_of_engine rfl rfl]
    exact runCommand_completes c _
  · rw [step_bus h, serve, busWrite_busy (s := { s with events := rest }) hbusy]
    rfl

end Sys2Proof.Machine
end

section
/-! PROOFS. The key schedule (spec 40_key_schedule.md R78 to R86): what step 2 leaves in P, which table entry each iteration of
steps 3 and 4 writes and that none is written again, and what the command KEYSCHED answers. -/

namespace Sys2Proof.Machine

/-! ### Step 2: the key bytes (R79, R80) -/

theorem keyWord_mod (K : Nat → Byte) (n o : Nat) : keyWord K n (o % n) = keyWord K n o := by
  simp only [keyWord, Nat.mod_add_mod]

/-- Step 2 after `m` words: the offset is 4m mod n, P[0..m) have taken their key words, and the rest is as in `t`. -/
def MixedWords (K : Nat → Byte) (n : Nat) (t : Tables) (m : Nat) (x : Tables × Nat) : Prop :=
  x.2 = 4 * m % n ∧ x.1.s = t.s ∧
    ∀ i, subkey x.1 i = if i < m then subkey t i ^^^ keyWord K n (4 * i) else subkey t i

/-- One more word of step 2. -/
theorem MixedWords.next {K : Nat → Byte} {n m : Nat} {t : Tables} {x : Tables × Nat} (hm : m < 18)
    (h : MixedWords K n t m x) : MixedWords K n t (m + 1) (mixKeyWord K n m x) := by
  obtain ⟨hoff, hs, hp⟩ := h
  refine ⟨?_, hs, fun i => ?_⟩
  · simp only [mixKeyWord, hoff, Nat.mod_add_mod, Nat.mul_succ]
  · simp only [mixKeyWord]
    rw [subkey_setSubkey _ _ hm, hoff, keyWord_mod, hp]
    by_cases hi : m = i
    · simp [hi]
    · have hlt : i < m + 1 ↔ i < m := by omega
      simp only [hi, hlt, hp, if_false]

/-- Step 2 at its end. -/
theorem mixedWords_mixKey (K : Nat → Byte) (n : Nat) (t : Tables) :
    MixedWords K n t 18 (forUpTo 18 (mixKeyWord K n) (t, 0)) :=
  forUpTo_invariant (P := MixedWords K n t) ⟨by simp, rfl, by simp⟩ fun _ _ hm hx => hx.next hm

/-- P[i] after step 2. -/
theorem subkey_mixKey (K : Nat → Byte) (n : Nat) (t : Tables) {i : Nat} (hi : i < 18) :
    subkey (mixKey K n t) i = subkey t i ^^^ keyWord K n (4 * i) := by
  obtain ⟨-, -, hp⟩ := mixedWords_mixKey K n t
  exact (hp i).trans (if_pos hi)

@[simp] theorem mixKey_s (K : Nat → Byte) (n : Nat) (t : Tables) : (mixKey K n t).s = t.s := by
  obtain ⟨-, hs, -⟩ := mixedWords_mixKey K n t
  exact hs

/-- Keys whose key words agree derive the same tables from the same constants. -/
theorem derive_congr {K K' : Nat → Byte} {n n' : Nat} (init : Tables) (h : ∀ o, keyWord K n o = keyWord K' n' o) :
    derive init K n = derive init K' n' := by
  have hmix : mixKey K n init = mixKey K' n' init :=
    tables_ext (fun i hi => by rw [subkey_mixKey K n init hi, subkey_mixKey K' n' init hi, h]) (by simp)
  rw [derive, derive, hmix]

/-- Every word of an all-zero key is zero, whatever its length. -/
theorem keyWord_of_zero {K : Nat → Byte} {n : Nat} (hn : 1 ≤ n) (h : ∀ i, i < n → K i = 0) (o : Nat) :
    keyWord K n o = 0 := by
  rw [keyWord_congr (K' := fun _ => 0) hn h]
  show be32 0 0 0 0 = 0
  decide

/-- Settles O12: `subkey_mixKey`, with the key word written out. -/
theorem keyBytesRepeatCyclically : Obligations.KeyBytesRepeatCyclically := by
  unfold Obligations.KeyBytesRepeatCyclically
  exact fun K n t _ => ⟨fun i hi => subkey_mixKey K n t hi, mixKey_s K n t⟩

/-- Settles O15: the two keys have the same words, all zero. -/
theorem zeroKeysGiveOneSchedule : Obligations.ZeroKeysGiveOneSchedule := by
  unfold Obligations.ZeroKeysGiveOneSchedule
  intro init K K' n n' hn _ hn' _ hK hK'
  rw [derive_congr init fun o => (keyWord_of_zero hn hK o).trans (keyWord_of_zero hn' hK' o).symm]

/-! ### Steps 3 and 4: one iteration (R81, R82) -/

@[simp] theorem setSbox_p (k j : Nat) (v : Word) (t : Tables) : (setSbox k j v t).p = t.p := by
  unfold setSbox
  split <;> rfl

/-- An iteration of step 3 writes the two entries of its pair and no other. -/
theorem subkey_fillP {m : Nat} (hm : m < 9) (d : Datapath) (i : Nat) : subkey (fillP m d).tables i =
    if i = 2 * m then (fillP m d).l else if i = 2 * m + 1 then (fillP m d).r else subkey d.tables i := by
  rw [fillP_tables, subkey_setSubkey _ _ (by omega), subkey_setSubkey _ _ (by omega)]
  simp only [eq_comm (a := i)]
  by_cases hl : 2 * m = i
  · subst hl
    simp
  · simp only [hl, if_false]

/-- An iteration for box `k` writes the two entries of its pair and no other, in that box or another. -/
theorem sbox_fillS {k m : Nat} (hk : k < 4) (hm : m < 128) (d : Datapath) (k' j : Nat) :
    sbox (fillS k m d).tables k' j =
      if k' = k ∧ j = 2 * m then (fillS k m d).l else if k' = k ∧ j = 2 * m + 1 then (fillS k m d).r
      else sbox d.tables k' j := by
  rw [fillS_tables, sbox_setSbox _ _ hk (by omega), sbox_setSbox _ _ hk (by omega)]
  simp only [eq_comm (a := k'), eq_comm (a := j)]
  by_cases hl : k = k' ∧ 2 * m = j
  · obtain ⟨rfl, rfl⟩ := hl
    simp
  · simp only [hl, if_false]

theorem fillS_p (k m : Nat) (d : Datapath) : (fillS k m d).tables.p = d.tables.p := by
  rw [fillS_tables, setSbox_p, setSbox_p]

/-! ### No entry is written again (R83) -/

/-- A quantity that no iteration from `q` on changes is at the end as it was after `q` iterations. -/
theorem forUpTo_keeps_from {α β : Type} {body : Nat → α → α} {q n : Nat} (hq : q ≤ n) (a : α) (f : α → β)
    (h : ∀ i x, q ≤ i → i < n → f (body i x) = f x) : f (forUpTo n body a) = f (forUpTo q body a) := by
  induction n, hq using Nat.le_induction with
  | base => rfl
  | succ n hn ih =>
    rw [forUpTo_succ, h n _ hn (by omega)]
    exact ih fun i x hi hx => h i x hi (by omega)

/-- P[i] stands after the iteration of step 3 that writes it. -/
theorem subkey_pStage_kept (t : Tables) {i q m : Nat} (hi : i / 2 < q) (hqm : q ≤ m) (hm : m ≤ 9) :
    subkey (pStage t m).tables i = subkey (pStage t q).tables i := by
  refine forUpTo_keeps_from hqm _ (fun d : Datapath => subkey d.tables i) fun m' d hq h9 => ?_
  rw [subkey_fillP (by omega), if_neg (by omega), if_neg (by omega)]

/-- S[k][j] stands in box `k` after the iteration that writes it. -/
theorem sbox_sStage_kept (t : Tables) {k j q m : Nat} (hk : k < 4) (hj : j / 2 < q) (hqm : q ≤ m) (hm : m ≤ 128) :
    sbox (sStage t k m).tables k j = sbox (sStage t k q).tables k j := by
  refine forUpTo_keeps_from hqm _ (fun d : Datapath => sbox d.tables k j) fun m' d hq h128 => ?_
  rw [sbox_fillS hk (by omega), if_neg (by omega), if_neg (by omega)]

/-- Box `k` stands while the later boxes are filled. -/
theorem sbox_sStage_later_box (t : Tables) {k b : Nat} (hkb : k + 1 ≤ b) (hb : b ≤ 4) (j : Nat) :
    sbox (sStage t b 0).tables k j = sbox (sStage t (k + 1) 0).tables k j := by
  refine forUpTo_keeps_from hkb _ (fun d : Datapath => sbox d.tables k j) fun b' d hk h4 => ?_
  refine forUpTo_keeps (q := fun d : Datapath => sbox d.tables k j) d fun m x hm => ?_
  rw [sbox_fillS (by omega) hm, if_neg (by omega), if_neg (by omega)]

/-- Step 4 leaves P. -/
theorem sStage_p (t : Tables) (k m : Nat) : (sStage t k m).tables.p = (pStage t 9).tables.p := by
  have hbox : ∀ k m d, (forUpTo m (fillS k) d).tables.p = d.tables.p := fun k m d =>
    forUpTo_keeps (q := fun d => d.tables.p) d fun i x _ => fillS_p k i x
  rw [sStage, hbox]
  exact forUpTo_keeps (q := fun d => d.tables.p) _ fun k d _ => hbox k 128 d

/-- P[i] of the finished schedule is what iteration i/2 of step 3 left there. -/
theorem subkey_fillTables (t : Tables) {i : Nat} (hi : i < 18) :
    subkey (fillTables t).tables i = subkey (pStage t (i / 2 + 1)).tables i := by
  rw [← subkey_pStage_kept t (Nat.lt_succ_self _) (by omega) le_rfl, fillTables_eq_sStage, subkey, sStage_p, subkey]

/-- S[k][j] of the finished schedule is what iteration j/2 for box `k` left there. -/
theorem sbox_fillTables (t : Tables) {k j : Nat} (hk : k < 4) (hj : j < 256) :
    sbox (fillTables t).tables k j = sbox (sStage t k (j / 2 + 1)).tables k j := by
  rw [fillTables_eq_sStage, sbox_sStage_later_box t hk le_rfl, sStage_next_box,
    sbox_sStage_kept t hk (Nat.lt_succ_self _) (by omega) le_rfl]

/-- The finished P entries of the pair that iteration `m` of step 3 writes. -/
theorem subkey_fillTables_pair (t : Tables) {m : Nat} (hm : m < 9) :
    subkey (fillTables t).tables (2 * m) = (pStage t (m + 1)).l ∧
      subkey (fillTables t).tables (2 * m + 1) = (pStage t (m + 1)).r := by
  have h0 : 2 * m / 2 = m := by omega
  have h1 : (2 * m + 1) / 2 = m := by omega
  rw [subkey_fillTables t (by omega), subkey_fillTables t (by omega), h0, h1, pStage_succ]
  simp [subkey_fillP hm]

/-- The finished S entries of the pair that iteration `m` for box `k` writes. -/
theorem sbox_fillTables_pair (t : Tables) {k m : Nat} (hk : k < 4) (hm : m < 128) :
    sbox (fillTables t).tables k (2 * m) = (sStage t k (m + 1)).l ∧
      sbox (fillTables t).tables k (2 * m + 1) = (sStage t k (m + 1)).r := by
  have h0 : 2 * m / 2 = m := by omega
  have h1 : (2 * m + 1) / 2 = m := by omega
  rw [sbox_fillTables t hk (by omega), sbox_fillTables t hk (by omega), h0, h1, sStage_succ]
  simp [sbox_fillS hk hm]

/-- Settles O13: the datapath of the statement is `pStage` and `sStage`, whose iterations are `fillP` and `fillS`. -/
theorem scheduleWritesInOrder : Obligations.ScheduleWritesInOrder := by
  unfold Obligations.ScheduleWritesInOrder
  intro t dP dS final
  refine ⟨fun m hm => ?_, fun k m hk hm => ?_, sStage_zero_zero t, fun k _ => sStage_next_box t k, fun init K n h => ?_⟩
  · exact ⟨halvesOf_fillP m _, fun i _ => subkey_fillP hm _ i, rfl, subkey_fillTables_pair t hm⟩
  · exact ⟨halvesOf_fillS k m _, fun k' j _ _ => sbox_fillS hk hm _ k' j, fillS_p k m _, sbox_fillTables_pair t hk hm⟩
  · rw [derive, h]
    exact fillTables_eq_sStage t

/-! ### The command KEYSCHED (R84, R85, R86) -/

/-- What KEYSCHED n can answer: the derived tables for a valid length, InvalidKeyLength for any other. -/
theorem exec_keysched_cases {n : Nat} {s t : State} (h : exec (.keysched n) s = .next t) :
    (1 ≤ n ∧ n ≤ 56 ∧ t = completeOk { s with dp := derive s.cfg.init s.keyByte n, schedValid := true }) ∨
    ((n = 0 ∨ n > 56) ∧ t = s.failedWith .invalidKeyLength) := by
  by_cases hn : n = 0 ∨ n > 56
  · rw [exec_keysched_error s hn, Host.Outcome.next.injEq] at h
    exact .inr ⟨hn, h.symm⟩
  · have hv : 1 ≤ n ∧ n ≤ 56 := by omega
    rw [exec_keysched_ok s hv, Host.Outcome.next.injEq] at h
    exact .inl ⟨hv.1, hv.2, h.symm⟩

/-- Settles O10: the completion of the state with the derived tables; only `dp`, SCHED_VALID and the completion's own fields
differ. -/
theorem keyschedResult : Obligations.KeyschedResult := by
  unfold Obligations.KeyschedResult
  intro n s h1 h2
  refine ⟨_, exec_keysched_ok s ⟨h1, h2⟩, ?_⟩
  generalize derive s.cfg.init s.keyByte n = d
  rfl

/-- Settles O11: the length decides, and `raiseError` changes only the completion's fields. -/
theorem failedKeyschedChangesNothing : Obligations.FailedKeyschedChangesNothing := by
  unfold Obligations.FailedKeyschedChangesNothing
  refine ⟨fun n s hn => exec_keysched_error s hn, fun n s t h herr => ?_⟩
  rcases exec_keysched_cases h with ⟨-, -, rfl⟩ | ⟨hn, rfl⟩
  · exact absurd (completeOk_err _) herr
  · exact ⟨rfl, hn, rfl⟩

/-- Settles O14: key words read the first n bytes only, and a bus write keeps the datapath. -/
theorem tablesSnapshotTheKey : Obligations.TablesSnapshotTheKey := by
  unfold Obligations.TablesSnapshotTheKey
  refine ⟨fun n s s' t t' hinit hkey h h' hok => ?_, fun off data s t h => ?_⟩
  · rcases exec_keysched_cases h with ⟨h1, h2, rfl⟩ | ⟨-, rfl⟩
    · rcases exec_keysched_cases h' with ⟨-, -, rfl⟩ | ⟨hbad, -⟩
      · rw [completeOk_dp, completeOk_dp, hinit, derive_congr s'.cfg.init fun _ => keyWord_congr h1 hkey]
      · omega
    · cases hok
  · obtain ⟨-, loc, -, hw⟩ := busWrite_cases h
    obtain ⟨hdp, hsched, -⟩ := writeLocation_frame hw
    exact ⟨by rw [hdp], hsched⟩

end Sys2Proof.Machine
end

section
/-! PROOFS. The Feistel core (spec 41_feistel_core.md R87 to R93): the round function by number, encipher and decipher as the
two orders of one ladder of round pairs, each the inverse of the other, and the raw block commands BLK_ENC and BLK_DEC. -/

namespace Sys2Proof.Machine

/-! ### The round function (R87) -/

/-- What F reads of box `k`: the entry that byte `k` of its argument selects. -/
theorem sbox_wordByte (t : Tables) (x : Word) (k : Fin 4) :
    sbox t k (wordByte x k).toNat = t.s[k][x.toNat / 2 ^ (24 - 8 * k.val) % 256] := by
  have hj : (wordByte x k).toNat = x.toNat / 2 ^ (24 - 8 * k.val) % 256 := toNat_wordByte x k
  rw [hj, sbox_eq_getElem t k.isLt (Nat.mod_lt _ (by decide))]
  rfl

/-- Settles O16: `sbox_wordByte` for each box, and addition of words is addition modulo 2^32. -/
theorem roundFunction : Obligations.RoundFunction := by
  unfold Obligations.RoundFunction
  intro t x S
  have hbox (k : Fin 4) : (sbox t k (wordByte x k).toNat).toNat = S k (x.toNat / 2 ^ (24 - 8 * k.val)) :=
    congrArg BitVec.toNat (sbox_wordByte t x k)
  have h0 : (sbox t 0 (wordByte x 0).toNat).toNat = S 0 (x.toNat / 2 ^ 24) := hbox 0
  have h1 : (sbox t 1 (wordByte x 1).toNat).toNat = S 1 (x.toNat / 2 ^ 16) := hbox 1
  have h2 : (sbox t 2 (wordByte x 2).toNat).toNat = S 2 (x.toNat / 2 ^ 8) := hbox 2
  have h3 : (sbox t 3 (wordByte x 3).toNat).toNat = S 3 x.toNat := by simpa using hbox 3
  rw [roundF, BitVec.toNat_add, BitVec.toNat_xor, BitVec.toNat_add, h0, h1, h2, h3]

/-! ### The ladder of round pairs that encipher and decipher share (R88, R89) -/

/-- What `m` round pairs leave, when the first line XORs P[first] and pair `i` uses P[a i] and P[b i]. -/
def ladder (t : Tables) (first : Nat) (a b : Nat → Nat) (h : Halves) (m : Nat) : Halves :=
  forUpTo m (fun i => roundPair t (a i) (b i)) (h.1 ^^^ subkey t first, h.2)

theorem encipher_eq_ladder (t : Tables) (h : Halves) : encipher t h =
    ((ladder t 0 (2 * · + 1) (2 * · + 2) h 8).2 ^^^ subkey t 17, (ladder t 0 (2 * · + 1) (2 * · + 2) h 8).1) := rfl

theorem decipher_eq_ladder (t : Tables) (h : Halves) : decipher t h =
    ((ladder t 17 (16 - 2 * ·) (15 - 2 * ·) h 8).2 ^^^ subkey t 0, (ladder t 17 (16 - 2 * ·) (15 - 2 * ·) h 8).1) := rfl

/-- Settles O17: the sequence is the ladder, whose start and step are those of the statement by definition. -/
theorem encipherDecipherRounds : Obligations.EncipherDecipherRounds := by
  unfold Obligations.EncipherDecipherRounds
  intro t l r
  refine ⟨fun i hi => subkey_eq_getElem t hi, ⟨ladder t 0 (2 * · + 1) (2 * · + 2) (l, r), rfl, fun m _ => rfl, ?_⟩,
    ⟨ladder t 17 (16 - 2 * ·) (15 - 2 * ·) (l, r), rfl, fun m _ => rfl, ?_⟩⟩
  · exact encipher_eq_ladder t (l, r)
  · exact decipher_eq_ladder t (l, r)

/-! ### Encipher and decipher undo each other (R90) -/

/-- A round pair undoes the pair with its two subkeys exchanged, on the swapped halves. -/
theorem roundPair_swap_roundPair (t : Tables) (a b : Nat) (h : Halves) :
    roundPair t b a (roundPair t a b h).swap = h.swap := by
  simp only [roundPair, Prod.swap, xor_cancel_left]

/-- A loop undoes another, up to `σ`, when its iteration `m` undoes the other's `m`-th iteration from the end. -/
theorem forUpTo_undoes {α : Type} {n : Nat} {f g : Nat → α → α} {σ : α → α} (x : α)
    (h : ∀ m y, m < n → g m (σ (f (n - (m + 1)) y)) = σ y) : forUpTo n g (σ (forUpTo n f x)) = σ x := by
  have hinv : forUpTo n g (σ (forUpTo n f x)) = σ (forUpTo (n - n) f x) :=
    forUpTo_invariant (P := fun m y => y = σ (forUpTo (n - m) f x)) rfl fun m y hm hy => by
      have hpred : n - m = n - (m + 1) + 1 := by omega
      rw [hy, hpred, forUpTo_succ, h m _ hm]
  rwa [Nat.sub_self] at hinv

/-- Ladders with the same subkeys in opposite orders undo each other: the last line of the one and the first line of the other
cancel, and so do the round pairs between them. -/
theorem ladder_undoes (t : Tables) {n first last : Nat} {a b a' b' : Nat → Nat} (h : Halves)
    (hab : ∀ m, m < n → a' m = b (n - (m + 1)) ∧ b' m = a (n - (m + 1))) :
    ladder t last a' b' ((ladder t first a b h n).2 ^^^ subkey t last, (ladder t first a b h n).1) n =
      (h.2, h.1 ^^^ subkey t first) := by
  rw [ladder, xor_cancel_right]
  refine forUpTo_undoes (σ := Prod.swap) _ fun m y hm => ?_
  rw [(hab m hm).1, (hab m hm).2]
  exact roundPair_swap_roundPair t _ _ y

theorem decipher_encipher (t : Tables) (h : Halves) : decipher t (encipher t h) = h := by
  rw [decipher_eq_ladder, encipher_eq_ladder, ladder_undoes t h fun m hm => by omega, xor_cancel_right]

theorem encipher_decipher (t : Tables) (h : Halves) : encipher t (decipher t h) = h := by
  rw [encipher_eq_ladder, decipher_eq_ladder, ladder_undoes t h fun m hm => by omega, xor_cancel_right]

/-- Settles O18: one lemma for each order. -/
theorem encipherDecipherInverse : Obligations.EncipherDecipherInverse := by
  unfold Obligations.EncipherDecipherInverse
  exact fun t h => ⟨decipher_encipher t h, encipher_decipher t h⟩

/-! ### The raw block commands (R92, R93, R145) -/

/-- A pass through the datapath: the halves L and R become `cipher` of them, under the tables (R19). -/
def cipherPass (cipher : Tables → Halves → Halves) (d : Datapath) : Datapath :=
  loadHalves (cipher d.tables (halvesOf d)) d

theorem encipherHalves_eq_cipherPass : encipherHalves = cipherPass encipher := rfl

theorem decipherHalves_eq_cipherPass : decipherHalves = cipherPass decipher := rfl

/-- BLK_ENC with a schedule. -/
theorem exec_blkEnc_scheduled {s : State} (hv : s.schedValid = true) :
    exec .blkEnc s = .next (completeOk (blockRaw (cipherPass encipher) s)) := by
  rw [exec_blkEnc_ok (schedCheck_eq_none.2 hv), encipherHalves_eq_cipherPass]

/-- BLK_DEC with a schedule. -/
theorem exec_blkDec_scheduled {s : State} (hv : s.schedValid = true) :
    exec .blkDec s = .next (completeOk (blockRaw (cipherPass decipher) s)) := by
  rw [exec_blkDec_ok (schedCheck_eq_none.2 hv), decipherHalves_eq_cipherPass]

/-- A raw block command writes XL and XR, and beyond them only what its completion does. -/
theorem completeOk_blockRaw (cipher : Tables → Halves → Halves) (s : State) :
    completeOk (blockRaw (cipherPass cipher) s) = { s.completedAs (completeOk (blockRaw (cipherPass cipher) s)) with
      xl := (cipher s.dp.tables (s.xl, s.xr)).1, xr := (cipher s.dp.tables (s.xl, s.xr)).2 } := rfl

/-- Settles O19: `completeOk_blockRaw` for encipher, and the failed check. -/
theorem blkEncResult : Obligations.BlkEncResult := by
  unfold Obligations.BlkEncResult
  refine ⟨fun s hv => ⟨_, exec_blkEnc_scheduled hv, completeOk_blockRaw encipher s⟩, fun s hv => ?_⟩
  exact exec_blkEnc_error (schedCheck_eq_some.2 ⟨hv, rfl⟩)

/-- Settles O20: `completeOk_blockRaw` for decipher, and the failed check. -/
theorem blkDecResult : Obligations.BlkDecResult := by
  unfold Obligations.BlkDecResult
  refine ⟨fun s hv => ⟨_, exec_blkDec_scheduled hv, completeOk_blockRaw decipher s⟩, fun s hv => ?_⟩
  exact exec_blkDec_error (schedCheck_eq_some.2 ⟨hv, rfl⟩)

/-- What a raw block command leaves in XL and XR. -/
theorem halves_blockRaw (cipher : Tables → Halves → Halves) (s : State) :
    ((blockRaw (cipherPass cipher) s).xl, (blockRaw (cipherPass cipher) s).xr) = cipher s.dp.tables (s.xl, s.xr) := rfl

/-- The second of two raw block commands restores XL and XR when its cipher is the inverse of the first one's: it finds the
first one's result in XL and XR, and the same tables. -/
theorem blockRaw_undoes {cipher inverse : Tables → Halves → Halves} (hinv : ∀ t h, inverse t (cipher t h) = h)
    (s : State) (c : Ctrl) :
    let u := completeOk (blockRaw (cipherPass inverse) { completeOk (blockRaw (cipherPass cipher) s) with ctrl := c })
    u.xl = s.xl ∧ u.xr = s.xr := by
  intro u
  have hu : (u.xl, u.xr) = inverse s.dp.tables (cipher s.dp.tables (s.xl, s.xr)) :=
    halves_blockRaw inverse { completeOk (blockRaw (cipherPass cipher) s) with ctrl := c }
  rw [hinv] at hu
  exact Prod.mk.inj hu

/-- Settles O21: the two ciphers are inverses of each other (R90), and neither command reads CTRL. -/
theorem rawCommandsUndoEachOther : Obligations.RawCommandsUndoEachOther := by
  unfold Obligations.RawCommandsUndoEachOther
  intro s c hv
  refine ⟨⟨_, _, exec_blkEnc_scheduled hv, exec_blkDec_scheduled hv, ?_⟩,
    ⟨_, _, exec_blkDec_scheduled hv, exec_blkEnc_scheduled hv, ?_⟩⟩
  · exact blockRaw_undoes decipher_encipher s c
  · exact blockRaw_undoes encipher_decipher s c

end Sys2Proof.Machine
end

section
/-! PROOFS. The word orders and `strip` (spec 42_block_modes.md R94 to R96, R101): the conversions between a block and its halves
by number, their laws, and the last non-zero byte. -/

namespace Sys2Proof.Machine

/-! ### Blocks and halves (R94, R95) -/

/-- Settles O22: the halves are words of the block's bytes, whose numbers the laws of the operands give. -/
theorem blockToHalves : Obligations.BlockToHalves := by
  unfold Obligations.BlockToHalves
  intro blk B
  have hB (i : Nat) : B i = (blockByte blk i).toNat := (toNat_blockByte blk i).symm
  simp only [hB]
  exact ⟨toNat_be32 _ _ _ _, toNat_be32 _ _ _ _, toNat_le32 _ _ _ _, toNat_le32 _ _ _ _⟩

/-! ### The laws of the two conversions (R96) -/

theorem swapBytes_be32 (b0 b1 b2 b3 : Byte) : swapBytes (be32 b0 b1 b2 b3) = le32 b0 b1 b2 b3 :=
  swapBytes_le32 b3 b2 b1 b0

/-- The non-standard order is the standard one with the halves exchanged and the bytes of each reversed. -/
theorem b2h_true (blk : Block) : b2h blk true = (swapBytes (b2h blk false).2, swapBytes (b2h blk false).1) := by
  simp only [b2h, swapBytes_be32]

theorem swapBytes_involutive : Function.Involutive swapBytes := swapBytes_swapBytes

theorem h2b_true (h : Halves) : h2b h true = h2b (swapBytes h.2, swapBytes h.1) false := rfl

theorem h2b_b2h (blk : Block) (wo : Bool) : h2b (b2h blk wo) wo = blk := by
  have standard : h2b (b2h blk false) false = blk := be32_blockByte blk
  cases wo with
  | false => exact standard
  | true =>
    rw [h2b_true, b2h_true, swapBytes_involutive _, swapBytes_involutive _, standard]

theorem b2h_h2b (h : Halves) (wo : Bool) : b2h (h2b h wo) wo = h := by
  have standard (a b : Word) : b2h (h2b (a, b) false) false = (a, b) := by
    have hhi (i : Nat) (hi : i < 4) := blockByte_append_hi a b i hi
    have hlo (i : Nat) (hi : i < 4) := blockByte_append_lo a b i hi
    simp only [b2h, h2b]
    rw [hhi 0 (by decide), hhi 1 (by decide), hhi 2 (by decide), hhi 3 (by decide), be32_wordByte,
      hlo 0 (by decide), hlo 1 (by decide), hlo 2 (by decide), hlo 3 (by decide), be32_wordByte]
  cases wo with
  | false => exact standard h.1 h.2
  | true =>
    rw [h2b_true, b2h_true, standard, swapBytes_involutive _, swapBytes_involutive _]

theorem le32_xor (a b c d a' b' c' d' : Byte) :
    le32 (a ^^^ a') (b ^^^ b') (c ^^^ c') (d ^^^ d') = le32 a b c d ^^^ le32 a' b' c' d' :=
  be32_xor d c b a d' c' b' a'

theorem b2h_xor (a b : Block) (wo : Bool) :
    b2h (a ^^^ b) wo = ((b2h a wo).1 ^^^ (b2h b wo).1, (b2h a wo).2 ^^^ (b2h b wo).2) := by
  cases wo <;> simp only [b2h, blockByte_xor, be32_xor, le32_xor]

/-- The CBC XOR done on bytes is the one done on halves: `b2h` takes both to the same halves, and `h2b` takes them back. -/
theorem h2b_xor (h : Halves) (b : Block) (wo : Bool) :
    h2b h wo ^^^ b = h2b (h.1 ^^^ (b2h b wo).1, h.2 ^^^ (b2h b wo).2) wo := by
  rw [← h2b_b2h (h2b h wo ^^^ b) wo, b2h_xor, b2h_h2b]

/-- Settles O23: one lemma for each law, and the example by evaluation. -/
theorem wordOrderLaws : Obligations.WordOrderLaws := by
  unfold Obligations.WordOrderLaws
  exact ⟨h2b_b2h, b2h_h2b, b2h_xor, h2b_xor, by decide, by decide⟩

/-! ### The stripped length (R101) -/

theorem strip_of_zero {O : Nat → Byte} {n : Nat} (h : O n = 0) : strip O (n + 1) = strip O n := if_pos h

theorem strip_of_ne_zero {O : Nat → Byte} {n : Nat} (h : O n ≠ 0) : strip O (n + 1) = n + 1 := if_neg h

theorem zero_of_strip_le (O : Nat → Byte) {N i : Nat} (h : strip O N ≤ i) (hi : i < N) : O i = 0 := by
  induction N with
  | zero => omega
  | succ n ih =>
    by_cases hn : O n = 0
    · rw [strip_of_zero hn] at h
      rcases Nat.lt_succ_iff_lt_or_eq.1 hi with hlt | rfl
      · exact ih h hlt
      · exact hn
    · rw [strip_of_ne_zero hn] at h
      omega

theorem ne_zero_before_strip (O : Nat → Byte) {N : Nat} (h : 0 < strip O N) : O (strip O N - 1) ≠ 0 := by
  induction N with
  | zero => cases h
  | succ n ih =>
    by_cases hn : O n = 0
    · rw [strip_of_zero hn] at h ⊢
      exact ih h
    · rwa [strip_of_ne_zero hn]

/-- Settles O24: by the lemmas above; a positive length of zeros would have a non-zero byte before its end. -/
theorem stripIsLastNonzero : Obligations.StripIsLastNonzero := by
  unfold Obligations.StripIsLastNonzero
  refine fun O N => ⟨strip_le O N, fun i => zero_of_strip_le O, ne_zero_before_strip O, fun hzero => ?_⟩
  by_contra hne
  have hpos : 0 < strip O N := Nat.pos_of_ne_zero hne
  have hle : strip O N ≤ N := strip_le O N
  exact ne_zero_before_strip O hpos (hzero _ (by omega))

theorem strip_congr {O O' : Nat → Byte} {N : Nat} (h : ∀ i, i < N → O i = O' i) : strip O N = strip O' N := by
  induction N with
  | zero => rfl
  | succ n ih => rw [strip, strip, h n (Nat.lt_succ_self n), ih fun i hi => h i (by omega)]

end Sys2Proof.Machine
end

section
/-! PROOFS. The message commands (spec 42_block_modes.md R97 to R105): each is one equation, its checks and the blocks, OUTLEN and
IV it writes; from it what each command leaves, that padding is never read, and the round trips. -/

namespace Sys2Proof.Machine

/-! ### What a message command checks and writes (R97 to R104, R109) -/

/-- The checks of a message command (R98, R103, R104). -/
def modeCheck : Instr → State → Option Completion
  | .cbcEnc => cbcEncCheck
  | .cbcDec => cbcDecCheck
  | _ => messageCheck

/-- The state whose IV a message command uses: only CBC_ENC draws a missing one (R109). -/
def modeStart : Instr → State → State
  | .cbcEnc => autoIv
  | _ => id

/-- Block `b` that a message command writes to OUTBUF (R100, R102 to R104). -/
def modeBlock (i : Instr) (s : State) (b : Nat) : Block :=
  let E := encipherBlock s.dp.tables s.ctrl.wordOrder
  let D := decipherBlock s.dp.tables s.ctrl.wordOrder
  match i with
  | .ecbDec => D (s.messageBlock b)
  | .cbcEnc => chainValue E s.messageBlock (autoIv s).ivreg (b + 1)
  | .cbcDec => D (s.messageBlock b) ^^^ (if b = 0 then s.ivreg else s.messageBlock (b - 1))
  | _ => E (s.messageBlock b)

/-- The OUTBUF that a message command leaves. -/
def modeOutbuf (i : Instr) (s : State) : Memory := storeBlocks (modeBlock i s) s.blockCount s.outbuf

/-- The OUTLEN that a message command leaves: N, or for ECB_DEC the stripped length of the output (R102). -/
def modeLength (i : Instr) (s : State) : Nat :=
  match i with
  | .ecbDec => strip { s with outbuf := modeOutbuf i s }.outbufByte s.paddedLength
  | _ => s.paddedLength

/-- What a message command writes when its checks pass. -/
def modeResult (i : Instr) (s : State) : State :=
  { s with
    ivreg := (modeStart i s).ivreg
    ivValid := (modeStart i s).ivValid
    entDraws := (modeStart i s).entDraws
    outbuf := modeOutbuf i s
    outlen := BitVec.ofNat 32 (modeLength i s) }

theorem exec_message_error {i : Instr} {s : State} {k : Completion} (hi : isMessage i = true)
    (h : modeCheck i s = some k) : exec i s = .next (raiseError k s) := by
  cases i with
  | ecbEnc => exact exec_ecbEnc_error h
  | ecbDec => exact exec_ecbDec_error h
  | cbcEnc => exact exec_cbcEnc_error h
  | cbcDec => exact exec_cbcDec_error h
  | keysched | setIv | genIv | blkEnc | blkDec => cases hi

/-- The automatic IV writes IVREG, IV_VALID and the draw counter, and no more. -/
theorem loadCv_autoIv_eq (s : State) : loadCv (autoIv s) = { s with
    cv := (autoIv s).ivreg, ivreg := (autoIv s).ivreg, ivValid := (autoIv s).ivValid,
    entDraws := (autoIv s).entDraws } := by
  rw [autoIv_frame]
  rfl

theorem completeOk_cbcEnc (s : State) :
    completeOk (runMessage cbcEncBlock (loadCv (autoIv s))) = completeOk (modeResult .cbcEnc s) := by
  rw [completeOk_runMessage (cbcEnc_loop _ _).1, loadCv_autoIv_eq]
  rfl

theorem completeOk_ecbDec (s : State) :
    completeOk (stripOutlen (runMessage (ecbBlock decipherHalves) s)) = completeOk (modeResult .ecbDec s) := by
  have hloop := ecbDec_loop s s.blockCount
  unfold LoopedFrom at hloop
  simp only [runMessage]
  rw [hloop]
  rfl

theorem exec_message_ok {i : Instr} {s : State} (hi : isMessage i = true) (h : modeCheck i s = none) :
    exec i s = .next (completeOk (modeResult i s)) := by
  cases i with
  | ecbEnc =>
    rw [exec_ecbEnc_ok h, completeOk_runMessage (ecbEnc_loop s _)]
    rfl
  | ecbDec => rw [exec_ecbDec_ok h, completeOk_ecbDec]
  | cbcEnc => rw [exec_cbcEnc_ok h, completeOk_cbcEnc]
  | cbcDec =>
    rw [exec_cbcDec_ok h, completeOk_runMessage (cbcDec_loop (loadCv s) _).1]
    rfl
  | keysched | setIv | genIv | blkEnc | blkDec => cases hi

theorem modeCheck_ne_ok {i : Instr} {s : State} {k : Completion} (h : modeCheck i s = some k) : k ≠ .ok := by
  unfold modeCheck at h
  split at h
  · exact check_ne_ok (.inr (.inr (.inl h)))
  · exact check_ne_ok (.inr (.inr (.inr h)))
  · exact check_ne_ok (.inr (.inl h))

/-- Everything a message command can do: a check fails, or all pass and it writes its whole result. -/
theorem exec_message_inv {i : Instr} {s t : State} (hi : isMessage i = true) (h : exec i s = .next t) :
    (∃ k, k ≠ .ok ∧ modeCheck i s = some k ∧ t = raiseError k s) ∨
    (modeCheck i s = none ∧ t = completeOk (modeResult i s)) := by
  cases hc : modeCheck i s with
  | some k =>
    rw [exec_message_error hi hc] at h
    cases h
    exact .inl ⟨k, modeCheck_ne_ok hc, rfl, rfl⟩
  | none =>
    rw [exec_message_ok hi hc] at h
    cases h
    exact .inr ⟨rfl, rfl⟩

theorem modeCheck_of_ok {i : Instr} {s t : State} (hi : isMessage i = true) (h : exec i s = .next t) (ht : t.err = .ok) :
    modeCheck i s = none := by
  rcases exec_message_inv hi h with ⟨k, hk, -, rfl⟩ | ⟨hc, -⟩
  · exact absurd ht hk
  · exact hc

/-! ### The output, byte by byte and block by block (R97, R99) -/

theorem paddedLength_bounds (s : State) :
    s.msglen.toNat ≤ s.paddedLength ∧ s.paddedLength < s.msglen.toNat + 8 ∧ s.paddedLength % 8 = 0 := by
  unfold State.paddedLength ceil8
  omega

theorem outbufByte_modeResult (i : Instr) {s : State} (hw : s.outbuf.wf) (a : Nat) :
    (completeOk (modeResult i s)).outbufByte a =
      if a < s.paddedLength then blockByte (modeBlock i s (a / 8)) (a % 8) else s.outbufByte a := by
  show ((modeOutbuf i s).find a).getD _ = _
  rw [modeOutbuf, find_storeBlocks _ _ _ _ hw, eight_mul_blockCount]
  split <;> rfl

/-- OUTBUF from N on is left. -/
theorem outbufByte_modeResult_above (i : Instr) {s : State} (hw : s.outbuf.wf) {a : Nat} (ha : s.paddedLength ≤ a) :
    (completeOk (modeResult i s)).outbufByte a = s.outbufByte a := by
  rw [outbufByte_modeResult i hw, if_neg (by omega)]

theorem outputBlock_modeResult (i : Instr) {s : State} (hw : s.outbuf.wf) {b : Nat} (hb : 8 * b < s.paddedLength) :
    (completeOk (modeResult i s)).outputBlock b = modeBlock i s b :=
  blockAt_eq fun j hj => by
    obtain ⟨-, -, hmod⟩ := paddedLength_bounds s
    have hdiv : (8 * b + j) / 8 = b := by omega
    have hrem : (8 * b + j) % 8 = j := by omega
    rw [outbufByte_modeResult i hw, if_pos (by omega), hdiv, hrem]

/-- Settles O25: the equation of ECB_ENC, and its output block by block. -/
theorem ecbEncResult : Obligations.EcbEncResult := by
  unfold Obligations.EcbEncResult
  exact fun s hc hw hv hm => ⟨_, exec_message_ok rfl (messageCheck_eq_none.2 ⟨hv, hm⟩),
    fun b hb => outputBlock_modeResult .ecbEnc hw hb, fun a ha => outbufByte_modeResult_above .ecbEnc hw ha,
    toNat_paddedLength hc hm, rfl⟩

/-- Settles O26: the equation of ECB_DEC, and its output block by block. -/
theorem ecbDecResult : Obligations.EcbDecResult := by
  unfold Obligations.EcbDecResult
  exact fun s hc hw hv hm => ⟨_, exec_message_ok rfl (messageCheck_eq_none.2 ⟨hv, hm⟩),
    fun b hb => outputBlock_modeResult .ecbDec hw hb, fun a ha => outbufByte_modeResult_above .ecbDec hw ha,
    toNat_strip _ hc hm, rfl⟩

/-- Settles O28: the equation of CBC_DEC, and its output block by block. -/
theorem cbcDecResult : Obligations.CbcDecResult := by
  unfold Obligations.CbcDecResult
  exact fun s hc hw hv hm hiv => ⟨_, exec_message_ok rfl (cbcDecCheck_eq_none.2 ⟨hv, hm, hiv⟩),
    fun b hb => outputBlock_modeResult .cbcDec hw hb, fun a ha => outbufByte_modeResult_above .cbcDec hw ha,
    toNat_paddedLength hc hm, rfl⟩

/-- The IV of a CBC encryption is the one held, or one draw, kept in IVREG (R109). -/
theorem autoIv_iv (s : State) :
    (autoIv s).ivreg = (if s.ivValid then s.ivreg else Config.entData s.entDraws) ∧ (autoIv s).ivValid = true ∧
      (autoIv s).entDraws = if s.ivValid then s.entDraws else s.entDraws + 1 :=
  have h := loadCv_autoIv s
  ⟨congrArg State.ivreg h, congrArg State.ivValid h, congrArg State.entDraws h⟩

/-- A block of a CBC encryption is chained to the IV or to the output block before it (R103). -/
theorem outputBlock_cbcEnc {s : State} (hw : s.outbuf.wf) {b : Nat} (hb : 8 * b < s.paddedLength) :
    (completeOk (modeResult .cbcEnc s)).outputBlock b = encipherBlock s.dp.tables s.ctrl.wordOrder
      (s.messageBlock b ^^^
        if b = 0 then (autoIv s).ivreg else (completeOk (modeResult .cbcEnc s)).outputBlock (b - 1)) := by
  rw [outputBlock_modeResult .cbcEnc hw hb]
  cases b with
  | zero => rfl
  | succ b =>
    rw [if_neg (Nat.succ_ne_zero b), Nat.add_sub_cancel, outputBlock_modeResult .cbcEnc hw (by omega)]
    rfl

/-- Settles O27: the equation of CBC_ENC, its output block by block, and the IV held or drawn. -/
theorem cbcEncResult : Obligations.CbcEncResult := by
  unfold Obligations.CbcEncResult
  intro s hc hw hv hm hiv
  obtain ⟨hreg, hvalid, hdraws⟩ := autoIv_iv s
  simp only [← hreg, ← hdraws]
  refine ⟨_, exec_message_ok rfl (cbcEncCheck_eq_none.2 ⟨hv, hm, hiv⟩), fun b hb => outputBlock_cbcEnc hw hb,
    fun a ha => outbufByte_modeResult_above .cbcEnc hw ha, toNat_paddedLength hc hm, ?_⟩
  rw [← hvalid]
  rfl

/-- Settles O29: the outcomes of a message command; every byte below N is listed in the OUTBUF of a success. -/
theorem messageCommandsWriteAllOrNothing : Obligations.MessageCommandsWriteAllOrNothing := by
  unfold Obligations.MessageCommandsWriteAllOrNothing
  intro i s t hi hw h
  rcases exec_message_inv hi h with ⟨k, hk, -, rfl⟩ | ⟨-, rfl⟩
  · exact ⟨fun hok => absurd hok hk, fun _ => ⟨rfl, rfl⟩⟩
  · refine ⟨fun _ => ⟨fun a ha => ?_, fun a ha => outbufByte_modeResult_above i hw ha, ?_⟩, fun hne => absurd rfl hne⟩
    · have hfind := find_storeBlocks (modeBlock i s) s.blockCount a s.outbuf hw
      rw [eight_mul_blockCount, if_pos ha] at hfind
      exact Option.isSome_iff_exists.2 ⟨_, hfind⟩
    · cases i <;> rfl

/-! ### Padding (R97, R148) -/

theorem messageByte_below {s : State} {a : Nat} (h : a < s.msglen.toNat) : s.messageByte a = s.inbufByte a := if_pos h

theorem messageByte_above {s : State} {a : Nat} (h : s.msglen.toNat ≤ a) : s.messageByte a = 0 := if_neg (by omega)

/-- Byte `j` of the block at `i` of an array, by number. -/
theorem toNat_byte_blockAt (A : Nat → Byte) (i : Nat) {j : Nat} (hj : j < 8) :
    (blockAt A i).toNat / 2 ^ (56 - 8 * j) % 2 ^ 8 = (A (i + j)).toNat := by
  rw [← toNat_blockByte, blockByte_blockAt A i j hj]

/-- INBUF holds the same message when its bytes below MSGLEN are the same. -/
theorem messageBlock_inbuf {s : State} {m : Memory}
    (h : ∀ a, a < s.msglen.toNat → (m.find a).getD (Config.inbufReset s.resets a) = s.inbufByte a) :
    { s with inbuf := m }.messageBlock = s.messageBlock := by
  have hbyte : { s with inbuf := m }.messageByte = s.messageByte := by
    funext a
    by_cases ha : a < s.msglen.toNat
    · rw [messageByte_below ha, ← h a ha]
      exact messageByte_below ha
    · rw [messageByte_above (Nat.le_of_not_lt ha)]
      exact messageByte_above (Nat.le_of_not_lt ha)
  funext b
  rw [State.messageBlock, State.messageBlock, hbyte]

theorem autoIv_inbuf (s : State) (m : Memory) : autoIv { s with inbuf := m } = { autoIv s with inbuf := m } := by
  unfold autoIv
  split <;> rfl

/-- The checks of a message command do not read INBUF. -/
theorem modeCheck_inbuf (i : Instr) (s : State) (m : Memory) : modeCheck i { s with inbuf := m } = modeCheck i s := by
  cases i <;> rfl

theorem modeStart_inbuf (i : Instr) (s : State) (m : Memory) :
    modeStart i { s with inbuf := m } = { modeStart i s with inbuf := m } := by
  cases i
  case cbcEnc => exact autoIv_inbuf s m
  all_goals rfl

/-- The result of a message command depends on INBUF only through the message. -/
theorem modeResult_inbuf (i : Instr) {s : State} {m : Memory} (h : { s with inbuf := m }.messageBlock = s.messageBlock) :
    modeResult i { s with inbuf := m } = { modeResult i s with inbuf := m } := by
  have hblock : modeBlock i { s with inbuf := m } = modeBlock i s := by
    funext b
    simp only [modeBlock, h, autoIv_inbuf]
  have hbuf : modeOutbuf i { s with inbuf := m } = modeOutbuf i s := by
    unfold modeOutbuf
    rw [hblock]
    rfl
  have hlen : modeLength i { s with inbuf := m } = modeLength i s := by
    unfold modeLength
    rw [hbuf]
    rfl
  unfold modeResult
  rw [modeStart_inbuf, hbuf, hlen]

/-- A message command does not read INBUF from MSGLEN on (R148). -/
theorem exec_message_inbuf {i : Instr} {s t : State} {m : Memory} (hi : isMessage i = true)
    (hm : ∀ a, a < s.msglen.toNat → (m.find a).getD (Config.inbufReset s.resets a) = s.inbufByte a)
    (h : exec i s = .next t) : exec i { s with inbuf := m } = .next { t with inbuf := m } := by
  rcases exec_message_inv hi h with ⟨k, -, hc, rfl⟩ | ⟨hc, rfl⟩ <;> rw [← modeCheck_inbuf i s m] at hc
  · exact exec_message_error hi hc
  · rw [exec_message_ok hi hc, modeResult_inbuf i (messageBlock_inbuf hm)]
    rfl

/-- Settles O30: the padded length, its bytes, the bytes of a block, and `exec_message_inbuf`. -/
theorem paddingIgnoresInbuf : Obligations.PaddingIgnoresInbuf := by
  unfold Obligations.PaddingIgnoresInbuf
  exact fun s => ⟨paddedLength_bounds s, fun _ => messageByte_below, fun _ => messageByte_above,
    fun b j hj => ⟨toNat_byte_blockAt _ _ hj, toNat_byte_blockAt _ _ hj⟩, fun i t m hi hm => exec_message_inbuf hi hm⟩

/-! ### The round trips (R105) -/

theorem decipherBlock_encipherBlock (t : Tables) (wo : Bool) (x : Block) :
    decipherBlock t wo (encipherBlock t wo x) = x := by
  rw [decipherBlock, encipherBlock, b2h_h2b, decipher_encipher, h2b_b2h]

/-- The output of an encryption as the message of the next command: N is the same, and so are the blocks. -/
theorem message_fedBack {s t u : State} (hc : s.cfg.Legal) (hm : s.msglen.toNat ≤ s.cfg.msgMax)
    (hN : t.outlen.toNat = s.paddedLength) (hcfg : u.cfg = s.cfg) (hlen : u.msglen = t.outlen)
    (hin : ∀ a, a < t.outlen.toNat → u.inbufByte a = t.outbufByte a) :
    u.paddedLength = s.paddedLength ∧ u.msglen.toNat ≤ u.cfg.msgMax ∧
      ∀ b, 8 * b < s.paddedLength → u.messageBlock b = t.outputBlock b := by
  obtain ⟨-, -, hmod⟩ := paddedLength_bounds s
  obtain ⟨hle, hlt, hmodu⟩ := paddedLength_bounds u
  have hlenu : u.msglen.toNat = s.paddedLength := hlen ▸ hN
  refine ⟨by omega, ?_, fun b hb => blockAt_eq fun j hj => ?_⟩
  · rw [hlenu, hcfg]
    exact paddedLength_le hc hm
  · have ha : 8 * b + j < s.paddedLength := by omega
    rw [messageByte_below (hlenu.symm ▸ ha), hin _ (hN.symm ▸ ha), State.outputBlock, blockByte_blockAt _ _ _ hj]

/-- Arrays with the same blocks below `N` have the same bytes there. -/
theorem byte_eq_of_blocks {A B : Nat → Byte} {N : Nat} (h : ∀ b, 8 * b < N → blockAt A (8 * b) = blockAt B (8 * b)) {a : Nat}
    (ha : a < N) : A a = B a := by
  have hsplit : 8 * (a / 8) + a % 8 = a := Nat.div_add_mod a 8
  have hj : a % 8 < 8 := Nat.mod_lt _ (by decide)
  rw [← hsplit, ← blockByte_blockAt A _ _ hj, ← blockByte_blockAt B _ _ hj, h _ (by omega)]

/-- Settles O31: each block of ECB_DEC's output is the decipherment of an enciphered message block. -/
theorem ecbRoundTrip : Obligations.EcbRoundTrip := by
  unfold Obligations.EcbRoundTrip
  intro s t u hc hw hwu h hok hcfg hv htab hwo hlen hin
  obtain ⟨hvs, hms⟩ := messageCheck_eq_none.1 (modeCheck_of_ok rfl h hok)
  obtain ⟨t', ht', henc, -, hN, -⟩ := ecbEncResult s hc hw hvs hms
  cases h.symm.trans ht'
  obtain ⟨hpad, hmu, hmsg⟩ := message_fedBack hc hms hN hcfg hlen hin
  obtain ⟨v, hv', hdec, -, hstrip, hframe⟩ := ecbDecResult u (hcfg ▸ hc) hwu hv hmu
  rw [hpad] at hdec hstrip
  have hblock (b : Nat) (hb : 8 * b < s.paddedLength) : v.outputBlock b = s.messageBlock b := by
    rw [hdec b hb, hmsg b hb, henc b hb, htab, hwo, decipherBlock_encipherBlock]
  have hbyte (a : Nat) (ha : a < s.paddedLength) : v.outbufByte a = s.messageByte a := byte_eq_of_blocks hblock ha
  exact ⟨v, hv', congrArg State.err hframe, hbyte, hstrip.trans (strip_congr hbyte)⟩

/-- Settles O32: each block of CBC_DEC's output is the message block XORed twice with the same chaining value. -/
theorem cbcRoundTrip : Obligations.CbcRoundTrip := by
  unfold Obligations.CbcRoundTrip
  intro s t u hc hw hwu h hok hcfg hv htab hwo hivu hiv hlen hin
  obtain ⟨hvs, hms, hivs⟩ := cbcEncCheck_eq_none.1 (modeCheck_of_ok rfl h hok)
  obtain ⟨t', ht', henc, -, hN, ht⟩ := cbcEncResult s hc hw hvs hms hivs
  cases h.symm.trans ht'
  have hkept : t.ivreg = if s.ivValid then s.ivreg else Config.entData s.entDraws := congrArg State.ivreg ht
  obtain ⟨hpad, hmu, hmsg⟩ := message_fedBack hc hms hN hcfg hlen hin
  obtain ⟨v, hv', hdec, -, hvN, hframe⟩ := cbcDecResult u (hcfg ▸ hc) hwu hv hmu hivu
  rw [hpad] at hdec hvN
  have hblock (b : Nat) (hb : 8 * b < s.paddedLength) : v.outputBlock b = s.messageBlock b := by
    rw [hdec b hb, hmsg b hb, hmsg (b - 1) (by omega), henc b hb, htab, hwo, decipherBlock_encipherBlock, hiv, hkept,
      xor_cancel_right]
  exact ⟨v, hv', congrArg State.err hframe, fun a => byte_eq_of_blocks hblock, hvN⟩

/-! ### A wrong IV (R104) -/

/-- Settles O33: the checks do not read IVREG, and of the output only block 0 does. -/
theorem wrongIvCorruptsOnlyFirstBlock : Obligations.WrongIvCorruptsOnlyFirstBlock := by
  unfold Obligations.WrongIvCorruptsOnlyFirstBlock
  intro s t t' iv hw h h'
  have hcheck : modeCheck .cbcDec { s with ivreg := iv } = modeCheck .cbcDec s := rfl
  cases hc : modeCheck .cbcDec s with
  | some k =>
    cases h.symm.trans (exec_message_error rfl hc)
    cases h'.symm.trans (exec_message_error rfl (hcheck.trans hc))
    exact ⟨rfl, rfl, fun _ _ => rfl⟩
  | none =>
    cases h.symm.trans (exec_message_ok rfl hc)
    cases h'.symm.trans (exec_message_ok rfl (hcheck.trans hc))
    refine ⟨rfl, rfl, fun a ha => ?_⟩
    have hblock : modeBlock .cbcDec { s with ivreg := iv } (a / 8) = modeBlock .cbcDec s (a / 8) := by
      have hne : a / 8 ≠ 0 := by omega
      simp only [modeBlock, if_neg hne]
      rfl
    rw [outbufByte_modeResult .cbcDec hw, outbufByte_modeResult .cbcDec (s := { s with ivreg := iv }) hw, hblock]
    rfl

end Sys2Proof.Machine
end

section
/-! PROOFS. IV management (spec 43_iv_management.md R107 to R110): what SET_IV and GEN_IV leave, when CBC_ENC draws an IV, and
how the host reads IVREG. -/

namespace Sys2Proof.Machine

/-- An idle engine shows IVREG at IV0, the high word, and at IV1, the low word (R34). -/
theorem busRead_iv {s : State} (h : s.seq = .idle) :
    busRead 0x0020 s = .data (s.ivreg.extractLsb' 32 32) ∧ busRead 0x0024 s = .data (s.ivreg.extractLsb' 0 32) :=
  have hidle := isBusy_idle h
  ⟨busRead_idle (loc := .iv0) hidle (locate_of_offset trivial rfl) nofun,
    busRead_idle (loc := .iv1) hidle (locate_of_offset trivial rfl) nofun⟩

/-- A CBC_ENC that finds no IV draws one (R109). -/
theorem autoIv_eq_drawIv {s : State} (h : s.ivValid = false) : autoIv s = drawIv s := by simp [autoIv, h]

/-- A completed CBC_ENC holds the IV of `autoIv`: the chaining writes none of its fields. -/
theorem completeOk_cbcEnc_iv (s : State) :
    (completeOk (modeResult .cbcEnc s)).ivreg = (autoIv s).ivreg ∧
      (completeOk (modeResult .cbcEnc s)).ivValid = (autoIv s).ivValid ∧
      (completeOk (modeResult .cbcEnc s)).entDraws = (autoIv s).entDraws :=
  ⟨rfl, rfl, rfl⟩

/-- A CBC_DEC leaves the IV and draws none: it is not one of the commands that set an IV (R109). -/
theorem exec_cbcDec_iv {s t : State} (h : exec .cbcDec s = .next t) :
    t.ivreg = s.ivreg ∧ t.ivValid = s.ivValid ∧ t.entDraws = s.entDraws := by
  rcases exec_iv_cases h with hkept | ⟨-, -, hi | hi | ⟨hi, -⟩⟩
  · exact hkept
  all_goals cases hi

/-- Settles O36: CBC_ENC's checks pass or fail by AUTO_IV alone, and its IV is that of `drawIv`. -/
theorem automaticIv : Obligations.AutomaticIv := by
  unfold Obligations.AutomaticIv
  refine ⟨fun s hv hm hiv hauto => ?_, fun s hv hm hiv hauto => ?_, fun s t => exec_cbcDec_iv⟩
  · obtain ⟨hreg, hvalid, hdraws⟩ := completeOk_cbcEnc_iv s
    rw [autoIv_eq_drawIv hiv] at hreg hvalid hdraws
    have hread := busRead_iv (completeOk_seq (modeResult .cbcEnc s))
    rw [hreg] at hread
    exact ⟨_, exec_message_ok rfl (cbcEncCheck_eq_none.2 ⟨hv, hm, .inr hauto⟩), rfl, hreg, hvalid, hdraws, hread⟩
  · exact exec_cbcEnc_error (cbcEncCheck_eq_some.2 (.inr ⟨messageCheck_eq_none.2 ⟨hv, hm⟩, ⟨hiv, hauto⟩, rfl⟩))

/-- Settles O34: the equation of each outcome of SET_IV. -/
theorem setIvResult : Obligations.SetIvResult := by
  unfold Obligations.SetIvResult
  exact ⟨fun s => ⟨_, exec_setIv_ok s, rfl⟩, fun n s hn => exec_setIv_error s hn⟩

/-- Settles O35: the equation of GEN_IV, and the draw read back at IV0 and IV1. -/
theorem genIvResult : Obligations.GenIvResult := by
  unfold Obligations.GenIvResult
  exact fun s => ⟨_, exec_genIv s, rfl, busRead_iv (completeOk_seq (drawIv s))⟩

end Sys2Proof.Machine
end

section
/-! PROOFS. The hex text of the host codec (spec 48_host_codec.md R112 to R114): a digit gives back its nibble, two digits their
byte, and the text of a byte string that string. -/

namespace Sys2Proof.Machine

/-- The digit function of R113 undoes the digit of R112 on the sixteen nibbles. -/
theorem hexValue_hexDigit {n : Nat} (hn : n < 16) : hexValue (hexDigit n) = n := by
  revert n
  decide

/-- The two digits of a byte, the high nibble first, decode to that byte. -/
theorem hexDec_hexDigits (b : Byte) (t : List Char) :
    hexDec (hexDigit (b.toNat / 16) :: hexDigit (b.toNat % 16) :: t) = b :: hexDec t := by
  have hhigh : b.toNat / 16 < 16 := Nat.div_lt_of_lt_mul b.isLt
  have hlow : b.toNat % 16 < 16 := Nat.mod_lt _ (by decide)
  rw [hexDec, hexValue_hexDigit hhigh, hexValue_hexDigit hlow, Nat.div_add_mod, BitVec.ofNat_toNat, BitVec.setWidth_eq]

/-- Settles O59, by induction on the byte string. -/
theorem hexRoundTrip : Obligations.HexRoundTrip := by
  unfold Obligations.HexRoundTrip
  intro s
  induction s with
  | nil => rfl
  | cons b rest ih => rw [hexEnc, hexDec_hexDigits, ih]

end Sys2Proof.Machine
end

section
/-! PROOFS. Errors, the interrupt and progress (spec 60_exceptions.md R123 to R128, R137): which code a command reports, what moves
DONE and irq, and that every step answers and every accepted command completes. -/

namespace Sys2Proof.Machine

/-! ### The code a command reports (R124) -/

/-- The code of the first check that a command fails, in the order of R124's table. -/
def commandCheck : Instr → State → Option Completion
  | .keysched n, _ => if n = 0 ∨ n > 56 then some .invalidKeyLength else none
  | .setIv n, _ => if n ≠ 8 then some .invalidIvLength else none
  | .genIv, _ => none
  | .blkEnc, s | .blkDec, s => schedCheck s
  | .ecbEnc, s | .ecbDec, s => messageCheck s
  | .cbcEnc, s => cbcEncCheck s
  | .cbcDec, s => cbcDecCheck s

/-- `commandCheck` is what `exec` reports. -/
theorem exec_err {i : Instr} {s t : State} (h : exec i s = .next t) : t.err = (commandCheck i s).getD .ok := by
  have reports {check : Option Completion} (herror : ∀ k, check = some k → exec i s = .next (raiseError k s))
      (hok : check = none → ∃ u, exec i s = .next (completeOk u)) : t.err = check.getD .ok := by
    cases check with
    | some k =>
      rw [herror k rfl] at h
      cases h
      rfl
    | none =>
      obtain ⟨u, hu⟩ := hok rfl
      rw [hu] at h
      cases h
      rfl
  cases i with
  | keysched n =>
    rcases exec_keysched_cases h with ⟨h1, h56, rfl⟩ | ⟨hn, rfl⟩
    · rw [commandCheck, if_neg (by omega)]
      rfl
    · rw [commandCheck, if_pos hn]
      rfl
  | setIv n =>
    by_cases hn : n = 8
    · subst hn
      exact reports (fun _ => nofun) fun _ => ⟨_, exec_setIv_ok s⟩
    · rw [exec_setIv_error s hn] at h
      cases h
      rw [commandCheck, if_pos hn]
      rfl
  | genIv => exact reports (fun _ => nofun) fun _ => ⟨_, exec_genIv s⟩
  | blkEnc => exact reports (fun _ => exec_blkEnc_error) fun hc => ⟨_, exec_blkEnc_ok hc⟩
  | blkDec => exact reports (fun _ => exec_blkDec_error) fun hc => ⟨_, exec_blkDec_ok hc⟩
  | ecbEnc => exact reports (fun _ => exec_ecbEnc_error) fun hc => ⟨_, exec_ecbEnc_ok hc⟩
  | ecbDec => exact reports (fun _ => exec_ecbDec_error) fun hc => ⟨_, exec_ecbDec_ok hc⟩
  | cbcEnc => exact reports (fun _ => exec_cbcEnc_error) fun hc => ⟨_, exec_cbcEnc_ok hc⟩
  | cbcDec => exact reports (fun _ => exec_cbcDec_error) fun hc => ⟨_, exec_cbcDec_ok hc⟩

theorem schedCheck_getD (s : State) :
    (schedCheck s).getD .ok = if s.schedValid = false then .noSchedule else .ok := by
  cases hv : s.schedValid <;> simp [schedCheck, hv]

theorem messageCheck_getD (s : State) : (messageCheck s).getD .ok =
    if s.schedValid = false then .noSchedule else if s.msglen.toNat > s.cfg.msgMax then .lengthTooLarge else .ok := by
  unfold messageCheck
  split_ifs <;> rfl

theorem cbcEncCheck_getD (s : State) : (cbcEncCheck s).getD .ok =
    if s.schedValid = false then .noSchedule
      else if s.msglen.toNat > s.cfg.msgMax then .lengthTooLarge
      else if s.ivValid = false ∧ s.ctrl.autoIv = false then .ivNotSet else .ok := by
  unfold cbcEncCheck messageCheck
  split_ifs <;> rfl

theorem cbcDecCheck_getD (s : State) : (cbcDecCheck s).getD .ok =
    if s.schedValid = false then .noSchedule
      else if s.msglen.toNat > s.cfg.msgMax then .lengthTooLarge
      else if s.ivValid = false then .ivNotSet else .ok := by
  unfold cbcDecCheck messageCheck
  split_ifs <;> rfl

/-- A command that reports an error committed nothing but its completion (R128). -/
theorem exec_failed {i : Instr} {s t : State} (h : exec i s = .next t) (herr : t.err ≠ .ok) : t = s.failedWith t.err := by
  rcases exec_cases i s with ⟨k, -, hk⟩ | ⟨u, hu, hf⟩
  · rw [hk] at h
    cases h
    rfl
  · rw [hu] at h
    cases h
    exact absurd (congrArg State.err hf) herr

/-- Settles O9: the table of each command is `commandCheck`, and a failed command is an error raised at acceptance. -/
theorem errorPriority : Obligations.ErrorPriority := by
  unfold Obligations.ErrorPriority
  refine ⟨fun c s hc => runCommand_illegal hc s, fun n s t h => ?_, fun n s t h => ?_, fun s t h => exec_err h,
    fun i s t hi h => ?_, fun i s t hi h => ?_, fun s t h => (exec_err h).trans (cbcEncCheck_getD s),
    fun s t h => (exec_err h).trans (cbcDecCheck_getD s), fun i s t => exec_failed⟩
  · rw [exec_err h, commandCheck]
    split <;> rfl
  · rw [exec_err h, commandCheck]
    split <;> rfl
  · rcases hi with rfl | rfl <;> exact (exec_err h).trans (schedCheck_getD s)
  · rcases hi with rfl | rfl <;> exact (exec_err h).trans (messageCheck_getD s)

/-! ### The interrupt output (R126, R127) -/

theorem irq_eq_true {s : State} : irq s = true ↔ s.done = true ∧ s.ctrl.irqEn = true := Bool.and_eq_true_iff

theorem irq_of_done_eq_false {s : State} (h : s.done = false) : irq s = false := by rw [irq, h, Bool.false_and]

/-- Every command ends with DONE = 1 and leaves CTRL (R123, R149). -/
theorem exec_done_ctrl {i : Instr} {s t : State} (h : exec i s = .next t) : t.done = true ∧ t.ctrl = s.ctrl := by
  rcases exec_cases i s with ⟨k, -, hk⟩ | ⟨u, hu, hf⟩
  · rw [hk] at h
    cases h
    exact ⟨rfl, rfl⟩
  · rw [hu] at h
    cases h
    rw [hf]
    exact ⟨rfl, rfl⟩

/-- A write that is answered `ok` is the write to the location at its offset. -/
theorem writeLocation_of_busWrite {off : BitVec 16} {data : Word} {s t : State} {m : Nat} {l : Location}
    (h : busWrite off data s = some t) (hex : l.Exists m) (hoff : off.toNat = l.offset) :
    writeLocation data s l = some t := by
  obtain ⟨-, loc, hloc, hw⟩ := busWrite_cases h
  exact locate_unique hloc hex hoff ▸ hw

theorem writeStatus_done {data : Word} (h : data.getLsbD 1 = true) (s : State) : (writeStatus data s).done = false := by
  rw [writeStatus, if_pos h, acknowledge_done]

/-- Settles O46: after an acknowledgement, an acceptance and a reset DONE is 0, after the CTRL write IRQ_EN is 0. -/
theorem irqFalls : Obligations.IrqFalls := by
  unfold Obligations.IrqFalls
  refine ⟨fun s => irq_eq_true, fun i s t h => ?_, fun s t data hbit h => ?_, fun s t data hbit h => ?_,
    fun s t c h => ?_, fun s => irq_of_done_eq_false (applyReset_done s), fun s => rfl⟩
  · obtain ⟨hdone, hctrl⟩ := exec_done_ctrl h
    rw [irq, hdone, hctrl, Bool.true_and]
  · cases writeLocation_of_busWrite (l := .status) (m := 0) h trivial rfl
    exact irq_of_done_eq_false (writeStatus_done hbit s)
  · cases writeLocation_of_busWrite (l := .ctrl) (m := 0) h trivial rfl
    rw [irq, ctrlOfWord, hbit, Bool.and_false]
  · cases writeLocation_of_busWrite (l := .cmd) (m := 0) h trivial rfl
    exact irq_of_done_eq_false (accept_done c s)

/-! ### What raises DONE (R123, R126) -/

/-- No write sets DONE (R29, R72). -/
theorem writeLocation_done {data : Word} {s t : State} {loc : Location} (h : writeLocation data s loc = some t)
    (hs : s.done = false) : t.done = false := by
  cases loc <;> simp only [writeLocation] at h <;> cases h
  case cmd => rfl
  case status =>
    unfold writeStatus
    split
    · rfl
    · exact hs
  all_goals exact hs

/-- No transaction sets DONE. -/
theorem serve_done (tr : Transaction) {s : State} (hs : s.done = false) : (serve tr s).done = false := by
  rcases serve_cases tr s with ⟨off, -, he⟩ | ⟨off, data, u, -, hu, he⟩ | ⟨off, data, -, -, he⟩ <;>
    rw [he, respond_done]
  · exact hs
  · obtain ⟨-, loc, -, hw⟩ := busWrite_cases hu
    exact writeLocation_done hw hs
  · exact hs

/-- Settles O47: of the cases of a step only the two in which a command completes set DONE. -/
theorem doneRisesOnlyByCompletion : Obligations.DoneRisesOnlyByCompletion := by
  unfold Obligations.DoneRisesOnlyByCompletion
  intro s t hstep hs ht
  rcases step_cases s with
    ⟨-, -, h⟩ | ⟨c, i, hturn, hc, -, h⟩ | ⟨c, w, hturn, hc, -, h⟩ | ⟨tr, -, h⟩ | ⟨-, h⟩ <;> rw [h] at hstep
  · cases hstep
    cases hs.symm.trans ht
  · obtain ⟨-, -, hidle⟩ := exec_cfg_inbuf_seq hstep
    exact ⟨⟨c, hc⟩, hidle, hturn⟩
  · cases hstep
    exact ⟨⟨c, hc⟩, rfl, hturn⟩
  · cases hstep
    cases (serve_done tr (s := popEvent s) hs).symm.trans ht
  · cases hstep
    cases ht

/-! ### Progress (R123, R128, R137, R141) -/

/-- Settles O54: in each case of a step a next state is given, for a command that of `exec_cases`. -/
theorem stepAlwaysAnswersNext : Obligations.StepAlwaysAnswersNext := by
  unfold Obligations.StepAlwaysAnswersNext
  intro s
  rcases step_cases s with ⟨-, -, h⟩ | ⟨c, i, -, -, -, h⟩ | ⟨c, w, -, -, -, h⟩ | ⟨tr, -, h⟩ | ⟨-, h⟩
  · exact ⟨_, h⟩
  · rcases exec_cases i (popEvent s) with ⟨k, -, hk⟩ | ⟨t, ht, -⟩
    · exact ⟨_, h.trans hk⟩
    · exact ⟨t, h.trans ht⟩
  · exact ⟨_, h⟩
  · exact ⟨_, h⟩
  · exact ⟨_, h⟩

theorem run_succ {M : Host.Core} {s u : M.State} (h : M.step s = .next u) (k : Nat) : M.run (k + 1) s = M.run k u := by
  simp only [Host.Core.run, h]

theorem run_one {s t : State} (h : step s = .next t) : core.run 1 s = .next t := run_succ (M := core) h 0

/-- While the engine is busy, no transaction touches SEQ or the pending events (R59). -/
theorem serve_busy {c : Word} {s : State} (hc : s.seq = .busy c) (tr : Transaction) :
    (serve tr s).seq = .busy c ∧ (serve tr s).events = s.events := by
  rcases serve_cases tr s with ⟨off, -, he⟩ | ⟨off, data, u, -, hu, he⟩ | ⟨off, data, -, -, he⟩
  · rw [he]
    exact ⟨hc, rfl⟩
  · rw [busWrite_busy hc] at hu
    cases hu
  · rw [he]
    exact ⟨hc, rfl⟩

/-- A busy engine completes its command, or is reset, by the time the pending events are used up. -/
theorem run_busy_completes (events : List Event) {c : Word} {s : State} (hc : s.seq = .busy c) (hev : s.events = events) :
    ∃ (k : Nat) (t : State), k ≤ events.length + 1 ∧ core.run k s = .next t ∧ t.seq = .idle ∧
      (t.done = true ∨ .reset ∈ events.takeWhile (· ≠ .engine)) := by
  induction events generalizing s with
  | nil =>
    obtain ⟨t, ht, hidle, hdone⟩ := runCommand_completes c s
    exact ⟨1, t, by simp, run_one ((step_busy_of_no_event hc hev).trans ht), hidle, .inl hdone⟩
  | cons e rest ih =>
    cases e with
    | engine =>
      obtain ⟨t, ht, hidle, hdone⟩ := runCommand_completes c { s with events := rest }
      exact ⟨1, t, by simp, run_one ((step_busy_of_engine hc hev).trans ht), hidle, .inl hdone⟩
    | reset =>
      have hstep : step s = .next (applyReset (popEvent s)) := by simp only [step, nextMove, hev]
      exact ⟨1, _, by simp, run_one hstep, rfl, .inr (by simp)⟩
    | bus tr =>
      obtain ⟨hbusy, hrest⟩ := serve_busy (s := { s with events := rest }) hc tr
      obtain ⟨k, t, hk, hrun, hidle, hend⟩ := ih hbusy hrest
      refine ⟨k + 1, t, Nat.succ_le_succ hk, (run_succ (M := core) (step_bus hev) k).trans hrun, hidle, ?_⟩
      exact hend.imp_right fun hreset => by simpa using hreset

/-- Settles O58: `run_busy_completes`, by induction on the pending events. -/
theorem acceptedCommandCompletes : Obligations.AcceptedCommandCompletes := by
  unfold Obligations.AcceptedCommandCompletes
  exact fun s c hc => run_busy_completes s.events hc rfl

end Sys2Proof.Machine
end

section
/-! PROOFS. What no command writes (spec 70_reset_and_hazards.md R149), and the values after a reset (R138): both reset events,
power-on and a later one, are `State.afterReset`, so each value is read off it once. -/

namespace Sys2Proof.Machine

/-! ### What no command writes (R21, R30, R35, R149) -/

/-- A command writes no input of the host, no configuration and no record of the outside world: a failure changes only DONE,
ERR and SEQ, and a success stays within `CommandFrame`. -/
theorem exec_keeps_inputs {i : Instr} {s t : State} (h : exec i s = .next t) :
    t.ctrl = s.ctrl ∧ t.keybuf = s.keybuf ∧ t.msglen = s.msglen ∧ t.inbuf = s.inbuf ∧ t.ivstage = s.ivstage ∧
    t.cmd = s.cmd ∧ t.cfg = s.cfg ∧ t.resets = s.resets ∧ t.events = s.events ∧ t.responses = s.responses := by
  rcases exec_cases i s with ⟨k, -, hk⟩ | ⟨u, hu, hf⟩
  · rw [hk] at h
    cases h
    exact ⟨rfl, rfl, rfl, rfl, rfl, rfl, rfl, rfl, rfl, rfl⟩
  · rw [hu] at h
    cases h
    rw [hf]
    exact ⟨rfl, rfl, rfl, rfl, rfl, rfl, rfl, rfl, rfl, rfl⟩

/-- Only the two raw block commands write XL and XR (R21): a drawn IV changes neither. -/
theorem exec_keeps_xl_xr {i : Instr} {s t : State} (henc : i ≠ .blkEnc) (hdec : i ≠ .blkDec) (h : exec i s = .next t) :
    t.xl = s.xl ∧ t.xr = s.xr := by
  cases hi : isMessage i with
  | false =>
    rcases exec_register_cases hi h with
      ⟨k, -, rfl⟩ | ⟨n, -, -, -, rfl⟩ | ⟨-, rfl⟩ | ⟨-, rfl⟩ | ⟨he, -, -⟩ | ⟨hd, -, -⟩
    · exact ⟨rfl, rfl⟩
    · exact ⟨rfl, rfl⟩
    · exact ⟨rfl, rfl⟩
    · exact ⟨rfl, rfl⟩
    · exact absurd he henc
    · exact absurd hd hdec
  | true =>
    rcases exec_message_cases hi h with ⟨k, -, rfl⟩ | ⟨u, n, out, ⟨-, rfl⟩ | ⟨-, rfl⟩, -, -, -, rfl⟩
    · exact ⟨rfl, rfl⟩
    · exact ⟨rfl, rfl⟩
    · rw [autoIv_frame]
      exact ⟨rfl, rfl⟩

/-- Settles O53: the frame of every command, of all but the raw block commands, and of all but the message commands. -/
theorem commandsLeaveHostInputs : Obligations.CommandsLeaveHostInputs := by
  unfold Obligations.CommandsLeaveHostInputs
  intro i s t h
  obtain ⟨hctrl, hkey, hlen, hin, hstage, hcmd, hcfg, hresets, hevents, hresp⟩ := exec_keeps_inputs h
  exact ⟨hctrl, hkey, hlen, hin, hstage, hcmd, hcfg, hresets, hevents, hresp,
    fun henc hdec => exec_keeps_xl_xr henc hdec h, fun hi => exec_register_output hi h⟩

/-! ### The values after reset (R138) -/

/-- A step whose next event is a reset abandons whatever the engine held. -/
theorem step_reset {s : State} {rest : List Event} (h : s.events = .reset :: rest) :
    step s = .next (applyReset { s with events := rest }) := by
  simp [step, nextMove, popEvent, h]

section
variable (cfg : Config) (entDraws r i : Nat) (events : List Event) (responses : List Response)

theorem statusWord_afterReset : statusWord (State.afterReset cfg entDraws r i events responses) = 0 :=
  BitVec.eq_of_toNat_eq (toNat_statusWord _)

theorem busRead_ctrl_afterReset :
    busRead 0x0000 (State.afterReset cfg entDraws r i events responses) = .data 0x00000002 := by
  obtain ⟨hctrl, -, -, -⟩ := busRead_ctrl_status_cmd_param (State.afterReset cfg entDraws r i events responses)
  have hword : ctrlWord ⟨false, true, false⟩ = 2 := by decide
  exact hctrl.trans (congrArg Response.data hword)

theorem busRead_status_afterReset :
    busRead 0x0004 (State.afterReset cfg entDraws r i events responses) = .data 0x00000000 := by
  obtain ⟨-, hstatus, -, -⟩ := busRead_ctrl_status_cmd_param (State.afterReset cfg entDraws r i events responses)
  exact hstatus.trans (congrArg Response.data (statusWord_afterReset ..))

theorem keyByte_afterReset {j : Nat} (hj : j < 56) :
    (State.afterReset cfg entDraws r i events responses).keyByte j = 0 := by
  simp [State.keyByte, State.afterReset, hj]

theorem irq_afterReset : irq (State.afterReset cfg entDraws r i events responses) = false :=
  irq_of_done_eq_false rfl

end

theorem busRead_param_reset : busRead 0x001C State.reset = .data 0x00001000 := by
  obtain ⟨-, -, -, hparam⟩ := busRead_ctrl_status_cmd_param State.reset
  exact hparam

/-- Settles O48: a reset event and power-on both answer a `State.afterReset`; the other registers are its fields. -/
theorem resetValues : Obligations.ResetValues := by
  unfold Obligations.ResetValues
  constructor
  · intro s rest h
    exact ⟨_, step_reset h, rfl, busRead_ctrl_afterReset .., busRead_status_afterReset .., rfl, rfl, rfl, rfl, rfl, rfl,
      rfl, fun j hj => keyByte_afterReset (hj := hj) .., rfl, irq_afterReset .., rfl, rfl, rfl, rfl⟩
  · exact ⟨rfl, busRead_ctrl_afterReset .., busRead_status_afterReset .., busRead_param_reset, rfl, rfl, rfl, rfl, rfl,
      rfl, rfl, fun j hj => keyByte_afterReset (hj := hj) .., irq_afterReset ..⟩

/-! ### The invariant at reset (R8, R138) -/

/-- Settles O56: the default configuration is legal, so a reset of the reset state meets the invariant (`inv_applyReset`); it
differs from it only in the counters and the unspecified values, of which the invariant speaks of none. -/
theorem resetMeetsInv : Obligations.ResetMeetsInv := by
  unfold Obligations.ResetMeetsInv
  have hlegal : State.reset.cfg.Legal := by decide
  obtain ⟨hcfg, hin, hout, hlen, hbusy, hiv⟩ := inv_applyReset hlegal
  exact ⟨hcfg, hin, hout, hlen, hbusy, hiv⟩

end Sys2Proof.Machine
end
